-- ==== Sys2Proof/Word.lean ====
section
/-! DEFINITION. The unit in which frames, records and job memory are laid out. -/

namespace Sys2Proof

/-- One byte of a command frame, a response, a bus frame, the imprint record or job memory. -/
abbrev Byte := BitVec 8

end Sys2Proof
end

