-- ==== Sys2Proof/Syntax.lean ====
section
/-! DEFINITION. The commands the block takes: one constructor per row of spec/opcode_table.json, with
the operands the row carries. -/

namespace Sys2Proof

/-- The machine's two stamp feeders (00_scope.md, Signals). -/
inductive Feeder
  | a | b
deriving DecidableEq, Repr

/-- The eight qualified input lines, in the order of R186. -/
inductive Line
  | issueA | issueB | reelLowA | reelLowB | service | done | fault | clean
deriving DecidableEq, Repr

/-- The three reel notes; the kind code carries the state (R113). -/
inductive NoteKind
  | mounted | released | empty
deriving DecidableEq, Repr

/-- A frame as the bus controller delivers it, before any check of R114. For a frame that is not
extended the identifier has 11 bits. -/
structure RxFrame where
  extended : Bool
  remote : Bool
  ident : BitVec 29
  data : List Byte
deriving DecidableEq, Repr

/-- The data of one branch bus frame, by kind (R113; layouts of R193). -/
inductive BusFrame
  | settled (dest : BitVec 8) (wantNo pledgeNo : BitVec 16) (amount : BitVec 24)
  | received (dest : BitVec 8) (wantNo pledgeNo : BitVec 16)
  | take (dest : BitVec 8) (wantNo pledgeNo : BitVec 16) (amount : BitVec 24)
  | void (dest : BitVec 8) (wantNo pledgeNo : BitVec 16)
  | ask (dest : BitVec 8) (wantNo pledgeNo : BitVec 16)
  | waive (dest : BitVec 8) (wantNo pledgeNo : BitVec 16)
  | pledge (dest : BitVec 8) (wantNo pledgeNo : BitVec 16) (amount : BitVec 24)
  | want (wantNo : BitVec 16) (amount : BitVec 24)
  | reelNote (kind : NoteKind) (reelId : BitVec 32) (remaining denomination : BitVec 16)
  | reelAsk (reelId : BitVec 32)
  | standing (surplus : BitVec 24) (day : BitVec 16) (flags : BitVec 8)
deriving DecidableEq, Repr

/-- The commands and events of spec/opcode_table.json, in the table's order. A command of the port
carries the payload bytes of its frame (L is their number); a received frame carries its sender and
its data fields; a timer event carries the key of the record whose timer expires. -/
inductive Instr
  | nop (payload : List Byte)
  | status (payload : List Byte)
  | reset (payload : List Byte)
  | configure (payload : List Byte)
  | readLines (payload : List Byte)
  | readRegisters (payload : List Byte)
  | protectOff (payload : List Byte)
  | protectOn (payload : List Byte)
  | readAlarms (payload : List Byte)
  | clearAlarms (payload : List Byte)
  | setAlarmMask (payload : List Byte)
  | clearAlarmMask (payload : List Byte)
  | setDay (payload : List Byte)
  | writePendingRate (payload : List Byte)
  | setEffectiveDay (payload : List Byte)
  | cancelPending (payload : List Byte)
  | readRates (payload : List Byte)
  | writeGrant (payload : List Byte)
  | readGrant (payload : List Byte)
  | closePeriod (payload : List Byte)
  | openSlot (payload : List Byte)
  | closeSlot (payload : List Byte)
  | readSlot (payload : List Byte)
  | bindFeeder (payload : List Byte)
  | startRun (payload : List Byte)
  | stopRun (payload : List Byte)
  | resumeRun (payload : List Byte)
  | readQueue (payload : List Byte)
  | readFinished (payload : List Byte)
  | writeJob (payload : List Byte)
  | readJob (payload : List Byte)
  | startJob (payload : List Byte)
  | resumeJob (payload : List Byte)
  | haltJob (payload : List Byte)
  | readWalker (payload : List Byte)
  | mountReel (payload : List Byte)
  | unmountReel (payload : List Byte)
  | readStock (payload : List Byte)
  | readBus (payload : List Byte)
  | readPeers (payload : List Byte)
  | busRestart (payload : List Byte)
  | requestCredit (payload : List Byte)
  | readTransfers (payload : List Byte)
  | discardUnresolved (payload : List Byte)
  | applyRefill (payload : List Byte)
  | badCommand (code : Byte) (payload : List Byte)
  | shortFrame (bytes : List Byte)
  | transactionWhileBusy (bytes : List Byte)
  | restart
  | doneRise
  | faultRise
  | mechanismTimerExpiry
  | imprintSendingEnd
  | issueRise (feeder : Feeder)
  | reelLowRise (feeder : Feeder)
  | serviceFall
  | frameIgnored (frame : RxFrame)
  | duplicateStation (frame : RxFrame)
  | standing (sender : BitVec 5) (surplus : BitVec 24) (day : BitVec 16) (flags : BitVec 8)
  | want (sender : BitVec 5) (wantNo : BitVec 16) (amount : BitVec 24)
  | pledge (sender : BitVec 5) (dest : BitVec 8) (wantNo pledgeNo : BitVec 16) (amount : BitVec 24)
  | take (sender : BitVec 5) (dest : BitVec 8) (wantNo pledgeNo : BitVec 16) (amount : BitVec 24)
  | ask (sender : BitVec 5) (dest : BitVec 8) (wantNo pledgeNo : BitVec 16)
  | waive (sender : BitVec 5) (dest : BitVec 8) (wantNo pledgeNo : BitVec 16)
  | settled (sender : BitVec 5) (dest : BitVec 8) (wantNo pledgeNo : BitVec 16) (amount : BitVec 24)
  | received (sender : BitVec 5) (dest : BitVec 8) (wantNo pledgeNo : BitVec 16)
  | void (sender : BitVec 5) (dest : BitVec 8) (wantNo pledgeNo : BitVec 16)
  | reelNoteMounted (sender : BitVec 5) (reelId : BitVec 32) (remaining denomination : BitVec 16)
  | reelNoteReleased (sender : BitVec 5) (reelId : BitVec 32) (remaining denomination : BitVec 16)
  | reelNoteEmpty (sender : BitVec 5) (reelId : BitVec 32) (remaining denomination : BitVec 16)
  | reelAsk (sender : BitVec 5) (reelId : BitVec 32)
  | frameSent
  | frameNotSent
  | busOff
  | busControllerReturn
  | standingTimerExpiry
  | peerAgeing (station : BitVec 5)
  | wantWindowExpiry
  | settleTimerExpiry
  | pledgeTimerExpiry (requester : BitVec 5) (wantNo : BitVec 16)
  | backupDelayExpiry (requester : BitVec 5) (wantNo : BitVec 16)
  | retryIntervalExpiry
  | askWindowExpiry (reelId : BitVec 32)
  | lineSettled (line : Line) (level : Bool)
  | qualifiedLevelChange (line : Line) (level : Bool)
deriving DecidableEq, Repr

end Sys2Proof
end

