-- ==== Sys2Proof/Machine/CommandTable.lean ====
section
/-! DEFINITION. The command table of 11_command_port_and_record_formats.md: for each command its code,
the payload lengths it takes, whether it is taken before configuration, whether it is protected. -/

namespace Sys2Proof.Machine

/-- One row of the command table. -/
structure CommandRow where
  code : Nat
  minLen : Nat
  maxLen : Nat
  before : Bool
  prot : Bool
deriving DecidableEq, Repr

namespace CommandRow

def nop : CommandRow := ⟨0x00, 0, 0, true, false⟩
def status : CommandRow := ⟨0x01, 0, 0, true, false⟩
def reset : CommandRow := ⟨0x02, 0, 0, true, false⟩
def configure : CommandRow := ⟨0x03, 25, 25, true, false⟩
def readLines : CommandRow := ⟨0x04, 0, 0, true, false⟩
def readRegisters : CommandRow := ⟨0x05, 0, 0, true, false⟩
def protectOff : CommandRow := ⟨0x06, 0, 0, false, false⟩
def protectOn : CommandRow := ⟨0x07, 0, 0, false, false⟩
def readAlarms : CommandRow := ⟨0x08, 0, 0, true, false⟩
def clearAlarms : CommandRow := ⟨0x09, 4, 4, true, false⟩
def setAlarmMask : CommandRow := ⟨0x0A, 4, 4, false, false⟩
def clearAlarmMask : CommandRow := ⟨0x0B, 4, 4, false, false⟩
def setDay : CommandRow := ⟨0x10, 2, 2, false, true⟩
def writePendingRate : CommandRow := ⟨0x11, 18, 18, false, true⟩
def setEffectiveDay : CommandRow := ⟨0x12, 2, 2, false, true⟩
def cancelPending : CommandRow := ⟨0x13, 0, 0, false, true⟩
def readRates : CommandRow := ⟨0x14, 2, 2, false, false⟩
def writeGrant : CommandRow := ⟨0x18, 12, 12, false, true⟩
def readGrant : CommandRow := ⟨0x19, 1, 1, false, false⟩
def closePeriod : CommandRow := ⟨0x1A, 0, 0, false, true⟩
def openSlot : CommandRow := ⟨0x20, 3, 3, false, false⟩
def closeSlot : CommandRow := ⟨0x21, 2, 2, false, false⟩
def readSlot : CommandRow := ⟨0x22, 1, 1, false, false⟩
def bindFeeder : CommandRow := ⟨0x23, 2, 2, false, false⟩
def startRun : CommandRow := ⟨0x28, 10, 60, false, false⟩
def stopRun : CommandRow := ⟨0x29, 1, 1, false, false⟩
def resumeRun : CommandRow := ⟨0x2A, 1, 1, false, false⟩
def readQueue : CommandRow := ⟨0x2B, 1, 1, false, false⟩
def readFinished : CommandRow := ⟨0x2C, 0, 0, false, false⟩
def writeJob : CommandRow := ⟨0x30, 2, 60, false, false⟩
def readJob : CommandRow := ⟨0x31, 3, 3, false, false⟩
def startJob : CommandRow := ⟨0x32, 3, 3, false, false⟩
def resumeJob : CommandRow := ⟨0x33, 0, 0, false, false⟩
def haltJob : CommandRow := ⟨0x34, 0, 0, false, false⟩
def readWalker : CommandRow := ⟨0x35, 0, 0, false, false⟩
def mountReel : CommandRow := ⟨0x38, 9, 9, false, false⟩
def unmountReel : CommandRow := ⟨0x39, 1, 1, false, false⟩
def readStock : CommandRow := ⟨0x3A, 1, 1, false, false⟩
def readBus : CommandRow := ⟨0x40, 0, 0, false, false⟩
def readPeers : CommandRow := ⟨0x41, 1, 1, false, false⟩
def busRestart : CommandRow := ⟨0x42, 0, 0, false, false⟩
def requestCredit : CommandRow := ⟨0x48, 3, 3, false, false⟩
def readTransfers : CommandRow := ⟨0x49, 0, 0, false, false⟩
def discardUnresolved : CommandRow := ⟨0x4A, 5, 5, false, true⟩
/-- "receipt only" before configuration: the refusal carries a receipt (R169, R181). -/
def applyRefill : CommandRow := ⟨0x50, 16, 16, false, false⟩

end CommandRow

/-- Every row of the command table, in its order. -/
def commandTable : List CommandRow :=
  [.nop, .status, .reset, .configure, .readLines, .readRegisters, .protectOff, .protectOn,
    .readAlarms, .clearAlarms, .setAlarmMask, .clearAlarmMask] ++
  [.setDay, .writePendingRate, .setEffectiveDay, .cancelPending, .readRates, .writeGrant,
    .readGrant, .closePeriod, .openSlot, .closeSlot, .readSlot, .bindFeeder] ++
  [.startRun, .stopRun, .resumeRun, .readQueue, .readFinished, .writeJob, .readJob, .startJob,
    .resumeJob, .haltJob, .readWalker, .mountReel, .unmountReel, .readStock] ++
  [.readBus, .readPeers, .busRestart, .requestCredit, .readTransfers, .discardUnresolved,
    .applyRefill]

/-- Whether a command code is in the command table (R181, check 2). -/
def knownCode (code : Nat) : Bool := commandTable.any (·.code == code)

/-- Check 1 of R181 on the bytes a transaction clocked in: fewer than 2, fewer than L + 2, or L
above 60. -/
def tooShort (bytes : List Byte) : Bool :=
  match bytes with
  | _ :: l :: rest => decide (rest.length < l.toNat) || decide (60 < l.toNat)
  | _ => true

end Sys2Proof.Machine
end

