-- ==== Sys2Proof/Config.lean ====
section
/-! DEFINITION. What the spec leaves to the factory or leaves open: opaque constants without a body.
Nothing in Lean can evaluate them, so a claim about the machine holds whatever they are. -/

namespace Sys2Proof.Config

/-- The part's factory serial (R168): written at manufacture, its value not given. Assumption log 5. -/
opaque stationSerial : BitVec 32

/-- The part's refill secret (R168): written at manufacture; neither its value nor its width is given.
Assumption log 5. -/
opaque refillSecret : List (BitVec 8)

/-- The check code the part forms with its refill secret over bytes 0 to 11 of a refill record (R169,
R170, R193). The spec does not give the function. Assumption log 6. -/
opaque checkCode : List (BitVec 8) → List (BitVec 8) → BitVec 32

/-- The stamps issued value when a stamp's denomination would take it past 2^48 - 1 (R132): the
spec gives no rule for the sum there. Applied to the total and the denomination; the model reduces it
into the total's range. A free value, assumption log 7. -/
opaque stampsValuePastRange : Nat → Nat → Nat

/-- The written-off total when an amount would take it past 2^48 - 1 (R151). A free value,
assumption log 7. -/
opaque writtenOffPastRange : Nat → Nat → Nat

/-- The byte a response carries in the place of a yes or no field, or of a named value without a code
for none, of a record that is absent (R195 states the numeric fields only). A free value,
assumption log 8. -/
opaque absentFieldByte : Nat → BitVec 8

end Sys2Proof.Config
end

