-- ==== Sys2Proof/Machine/State.lean ====
section
/-! DEFINITION. The block's state: every register, record, table, list, timer and pin the spec names, by
the block that owns it (00_scope.md, Block overview), and the queue of commands that wait.
Amounts, counts and days are whole numbers (00_scope.md, Amounts); a field's range is in its comment. -/

namespace Sys2Proof.Machine

/-- The reasons for which the machine could stop with a fault. The spec gives the part no state in
which it stops, so there is none (assumption log 36; safe: nothing is shut out). -/
inductive Fault
deriving DecidableEq, Repr

/-- The reasons for which a command is refused. -/
inductive Refusal
  /-- Raised by an arm of exec for a row without a meaning; no arm raises it now. Safe: the machine
  stops where the hardware goes on. -/
  | notModelled (mnemonic : String)
deriving DecidableEq, Repr

/-! ## Accounting Unit -/

/-- The station mode (R16). -/
inductive Mode
  | unconfigured | active | contactDue | contactLocked | exhausted
deriving DecidableEq, Repr

/-- The credit registers, the imprint number and the station mode (R1, R7, R15, R16). -/
structure Accounts where
  avail : Nat          -- 0..999,999,999
  held : Nat           -- 0..999,999
  escrow : Nat         -- 0..999,999,999
  used : Nat           -- 0..2^40 - 1
  spoiled : Nat        -- 0..used
  control : Nat        -- 0..2^48 - 1
  incoming : Nat       -- 0..999,999,999
  imprintNo : Nat      -- 0..2^32 - 1, wraps
  exhaustedMark : Bool
  mode : Mode
  restartSpoil : Nat   -- 0..999,999
deriving DecidableEq, Repr

/-! ## Grant Table -/

/-- A grant's kind (R26, R27). -/
inductive Kind
  | capped | prepaid
deriving DecidableEq, Repr

/-- One grant record (R22). -/
structure Grant where
  present : Bool
  dept : Nat           -- 0..65,535
  kind : Kind
  coarse : Bool
  amount : Nat         -- 0..1,048,575
  level : Nat          -- 0..3
  accessed : Bool
  spent : Nat          -- spent this period, 0..2^32 - 1
  spentLast : Nat      -- spent last period
  imprints : Nat       -- imprints this period
  stamps : Nat         -- stamps this period
deriving DecidableEq, Repr

/-- The record of a new part (R21), which is also the fixed record of grant 0 (R23). -/
def Grant.blank : Grant := ⟨false, 0, .capped, false, 0, 0, false, 0, 0, 0, 0⟩

/-- The Grant Table: records 1 to 63 (record 0 is fixed, R23) and the period number. -/
structure GrantTable where
  records : Vector Grant 63   -- record g stands at place g - 1
  period : Nat                -- 0..65,535
deriving DecidableEq, Repr

/-! ## Slot Unit -/

/-- The slot state (R40). -/
inductive SlotState
  | idle | opened | closing
deriving DecidableEq, Repr

/-- The close reason (R39). -/
inductive CloseReason
  | none | close | abandon | auto | restart
deriving DecidableEq, Repr

/-- One slot record (R39). -/
structure Slot where
  state : SlotState
  grant : Nat            -- 0..63
  level : Nat            -- operator level, 0..3
  kind : Kind            -- cached kind
  effective : Nat        -- cached effective amount, 0..104,857,500
  spentAtOpen : Nat      -- cached spent-at-open
  printDelta : Nat
  stockDelta : Nat
  imprints : Nat         -- imprint count
  stamps : Nat           -- stamp count
  lateIssues : Nat       -- late-issue count
  boundA : Bool          -- feeders bound
  boundB : Bool
  run : Option Nat       -- run in progress
  closeReason : CloseReason
  clampActed : Bool
deriving DecidableEq, Repr

/-- The slot record of a new part (R39). -/
def Slot.blank : Slot :=
  ⟨.idle, 0, 0, .capped, 0, 0, 0, 0, 0, 0, 0, false, false, none, .none, false⟩

/-! ## Rate Unit -/

/-- The values of a rate entry that is present (R64). -/
structure RateEntry where
  base : Nat         -- B, 1..99,999
  baseWeight : Nat   -- Wb, 1..9,999
  stepWeight : Nat   -- Ws, 0..9,999
  stepValue : Nat    -- S, 0..99,999
  maxWeight : Nat    -- Wm, Wb..30,000
  threshold : Nat    -- N, 0 or 2..9,999
  discount : Nat     -- D, 0..500
deriving DecidableEq, Repr

/-- The Rate Unit; an entry that is not present carries no values (R64). -/
structure RateUnit where
  day : Nat                                -- the postal day, 0..65,535 (R59)
  active : Vector (Option RateEntry) 32
  pending : Vector (Option RateEntry) 32
  effectiveDay : Option Nat                -- 1..65,535
deriving DecidableEq, Repr

/-! ## Run Controller -/

/-- Where a run came from; unknown only in a RESTART record (R76, R95). -/
inductive Source
  | command | jobLine (address : Nat) | unknown
deriving DecidableEq, Repr

/-- The run states (R76). -/
inductive RunState
  | queued | printing | jammed | stopping
deriving DecidableEq, Repr

/-- The end reasons (R94). -/
inductive EndReason
  | complete | stopped | abandoned | halted | locked | exhausted | noDate | noCredit | grantLimit
  | rateMissing | overweight | tooLarge | shortCredit | restart
deriving DecidableEq, Repr

/-- A run record (R76). -/
structure Run where
  id : Nat                      -- 1..255
  source : Source
  slot : Nat                    -- 0..3
  tariff : Nat                  -- 0..31, or 255
  direct : Option Nat           -- present only with tariff 255
  weight : Nat                  -- 0..30,000
  count : Option Nat            -- 1..9,999; none is continuous
  allOrNone : Bool
  autoClose : Bool
  endorsements : List Nat       -- at most 8, each 1..126
  latched : Nat                 -- latched value
  printed : Nat
  refunded : Nat
  spoiled : Nat
  voids : List Nat              -- void numbers, oldest first, at most 8
  state : RunState
  pendingEnd : Option EndReason
deriving DecidableEq, Repr

/-- The phase of the in-flight imprint (R85). -/
inductive Phase
  | sending | enabled
deriving DecidableEq, Repr

/-- The in-flight imprint (R85). -/
structure InFlight where
  runId : Nat
  number : Nat
  value : Nat
  phase : Phase
deriving DecidableEq, Repr

/-- A finished-run record (R95). -/
structure Finished where
  runId : Nat
  source : Source
  slot : Nat
  reason : EndReason
  value : Nat
  printed : Nat
  refunded : Nat
  spoiled : Nat
deriving DecidableEq, Repr

/-- The Run Controller. Timers hold the milliseconds left. -/
structure RunUnit where
  queue : List Run               -- head first, at most 8 (R80)
  nextId : Nat                   -- the run id counter, 1..255 (R77)
  inFlight : Option InFlight
  sending : List Byte            -- the imprint record on the link; empty when none is being sent (R194)
  sendTimer : Option Nat         -- at most 2 ms (R194)
  mechTimer : Option Nat         -- 3,000 ms (R85)
  finished : List Finished       -- oldest first, at most 8 (R95)
  endedCount : Nat               -- 0..65,535 (R95)
deriving DecidableEq, Repr

/-! ## Job Walker -/

/-- The walker states (R103). -/
inductive WalkerState
  | idle | running | waiting | held | done | faulted
deriving DecidableEq, Repr

/-- The held reasons (R102). -/
inductive HeldReason
  | none | linkHold | noCredit
deriving DecidableEq, Repr

/-- The stop reasons (R102, R195). -/
inductive StopReason
  | none | ended (reason : EndReason) | badLine | slotNotOpen | chainEnd
deriving DecidableEq, Repr

/-- A parsed job line with the attributes applied to it (R100, R101, R102). -/
structure LineCopy where
  slot : Nat
  tariff : Nat
  weight : Nat
  count : Nat
  direct : Option Nat
  endorsements : List Nat
  linkEnd : Bool
  linkHold : Bool
  linkAllOrNone : Bool
  linkAutoClose : Bool
  linkNext : Nat
  allOrNone : Bool       -- the attributes of this line
  autoClose : Bool
deriving DecidableEq, Repr

/-- The walker record (R102). -/
structure Walker where
  state : WalkerState
  lineAddress : Nat
  copy : Option LineCopy
  latchedAllOrNone : Bool
  latchedAutoClose : Bool
  nextAddress : Nat
  remaining : Nat
  heldReason : HeldReason
  stopReason : StopReason
  stopAddress : Nat
  run : Option Nat
  haltPending : Bool
  linesDone : Nat
deriving DecidableEq, Repr

/-- The walker record after a restart: the last column of R102. -/
def Walker.blank : Walker :=
  ⟨.idle, 0, none, false, false, 0, 0, .none, .none, 0, none, false, 0⟩

/-- Job memory as address and byte pairs, in the canonical form of Memory.wf. -/
abbrev Memory := List Host.Cell

/-- What an unlisted address reads as: the 0 that every restart sets (R98; assumption log 37). -/
def Memory.unlisted : Byte := 0

/-- The canonical form: addresses strictly rising, each below the size of job memory (R98), and no
entry equal to what an unlisted address reads as. -/
def Memory.wf (m : Memory) : Bool :=
  decide (m.Pairwise fun c d => c.1 < d.1) &&
    m.all fun c => decide (c.1 < 4096) && c.2 != Memory.unlisted

/-- The Job Walker. -/
structure JobUnit where
  memory : Memory
  walker : Walker
deriving DecidableEq, Repr

/-! ## Stock Unit -/

/-- The reel states (R129). -/
inductive ReelState
  | mounted | released | empty
deriving DecidableEq, Repr

/-- The checks of a reel (R129). -/
inductive Check
  | verified | asking | unverified | conflict
deriving DecidableEq, Repr

/-- A stock table entry (R129) with its ask window (R136). -/
structure Reel where
  id : Nat               -- 1..2^32 - 1
  denomination : Nat     -- 1..65,535
  countAtLoad : Nat      -- 1..65,535
  remaining : Nat        -- 0..65,535
  issued : Nat           -- issued here, 0..2^32 - 1, saturating
  state : ReelState
  feeder : Option Feeder
  check : Check
  askWindow : Option Nat -- milliseconds left, volatile
deriving DecidableEq, Repr

/-- A note of the released-reel list (R131). -/
structure ReleasedNote where
  reelId : Nat
  remaining : Nat
  denomination : Nat
  sender : Nat
deriving DecidableEq, Repr

/-- The Stock Unit. -/
structure StockUnit where
  table : List Reel               -- change order, oldest first, at most 12 (R129, R130)
  released : List ReleasedNote    -- oldest first, at most 16 (R131)
  issuedValue : Nat               -- stamps issued value, 0..2^48 - 1 (R132)
  unassigned : Nat                -- unassigned-issue count
  unaccounted : Nat               -- unaccounted-issue count
deriving DecidableEq, Repr

/-! ## Bus Interface -/

/-- The bus states (section 7.2). -/
inductive BusState
  | quiet | joining | active | off | silenced
deriving DecidableEq, Repr

/-- The four flags of a STANDING (R122). -/
structure StandingFlags where
  wanting : Bool
  contactDue : Bool
  contactLocked : Bool
  exhausted : Bool
deriving DecidableEq, Repr

/-- No flag set. -/
def StandingFlags.clear : StandingFlags := ⟨false, false, false, false⟩

/-- A frame of the transmit queue and whether it is loaded (R120). -/
structure TxEntry where
  frame : BusFrame
  loaded : Bool
deriving DecidableEq, Repr

/-- Liveness of a peer (R124). -/
inductive Liveness
  | live | silent
deriving DecidableEq, Repr

/-- A peer entry (R124). -/
structure Peer where
  station : Nat       -- 1..30
  surplus : Nat       -- 0..16,777,215
  day : Nat           -- 0..65,535
  flags : StandingFlags
  age : Nat           -- 0..2^32 - 1 ms, stopping at the top
  liveness : Liveness
deriving DecidableEq, Repr

/-- The Bus Interface. -/
structure BusUnit where
  state : BusState
  controllerOn : Bool             -- the bus controller is on the bus (R118)
  tx : List TxEntry               -- sending order, at most 16 (R120)
  standingTimer : Option Nat      -- milliseconds left (R123)
  announcedSurplus : Nat          -- last announced (R123)
  announcedFlags : StandingFlags
  ignored : Nat                   -- ignored-frames count, 0..65,535 (R114)
  peers : List Peer               -- by station number, at most 29 (R124)
deriving DecidableEq, Repr

/-! ## Sharing Unit -/

/-- The part of a want record that stands once a pledge is taken (R148). -/
structure Taken where
  giver : Nat
  pledgeNo : Nat
  amount : Nat
  attempts : Nat      -- ask attempts, 0..3
deriving DecidableEq, Repr

/-- The open want (R148): ASKED while no pledge is taken, TAKEN afterwards. -/
structure Want where
  no : Nat            -- 1..65,535
  asked : Nat         -- amount asked, 100..16,777,215
  forRequest : Bool
  taken : Option Taken
deriving DecidableEq, Repr

/-- The part of a pledge-table entry that stands once it is OPEN (R149). -/
structure Offer where
  pledgeNo : Nat
  amount : Nat
deriving DecidableEq, Repr

/-- A pledge-table entry (R149): DELAYED without an offer, OPEN with one. -/
structure PledgeEntry where
  requester : Nat
  wantNo : Nat
  asked : Nat
  offer : Option Offer
  age : Nat           -- milliseconds
deriving DecidableEq, Repr

/-- An entry of the out record (R150) or of the unresolved list (R151): the other station, the two
numbers and the amount. -/
structure Transfer where
  station : Nat
  wantNo : Nat
  pledgeNo : Nat
  amount : Nat
deriving DecidableEq, Repr

/-- The Sharing Unit. Timers hold the milliseconds left. -/
structure SharingUnit where
  want : Option Want
  wantWindow : Option Nat       -- 1,000 ms (R154)
  settleTimer : Option Nat      -- 2,000 ms (R155)
  retry : Option Nat            -- 5,000 ms (R153)
  request : Option Nat          -- the pending credit request (R153)
  lastWant : Nat                -- 0..65,535
  lastPledge : Nat              -- 0..65,535
  pledges : List PledgeEntry    -- at most 4 (R149)
  outRecord : List Transfer     -- oldest first, at most 8 (R150)
  unresolved : List Transfer    -- oldest first, at most 4 (R151)
  writtenOff : Nat              -- 0..2^48 - 1 (R151)
deriving DecidableEq, Repr

/-! ## Refill Check -/

/-- The Refill Check's state (R168); CONTACT_DAYS stands among the settings. -/
structure RefillUnit where
  serial : BitVec 32
  secret : List Byte
  lastNumber : Nat      -- 0..65,535
  lastContact : Nat     -- last contact day, 0..65,535
deriving DecidableEq, Repr

/-! ## Command Port and input qualifiers -/

/-- The eleven values of an accepted CONFIGURE (R184). -/
structure Settings where
  station : Nat          -- 1..30
  busRate : Nat          -- 125 or 250 kbit/s
  ceiling : Nat          -- 1..999,999,999
  lowWater : Nat         -- 0..ceiling
  target : Nat           -- lowWater..ceiling
  reserve : Nat          -- 0..ceiling
  maxPledge : Nat        -- 100..16,777,215
  interval : Nat         -- STANDING_INTERVAL in seconds, 2..30 (the default taken as 5)
  contactDays : Nat      -- 1..120
  qSensor : Nat          -- 1..15
  qMech : Nat            -- 1..15
deriving DecidableEq, Repr

/-- The status codes of 11_command_port_and_record_formats.md. -/
inductive Status
  | ok | badCommand | badLength | badArgument | notConfigured | alreadyConfigured | badConfig
  | prot | noService | busy | badDay | slotOpen | slotIdle | slotBusy | slotClosing | slotsOpen
  | grantAbsent | grantInUse | level | nullGrant | queueFull | noEntry | feederOccupied
  | feederEmpty | reelKnown
deriving DecidableEq, Repr

/-- A response: status and payload (R180, R182). -/
structure Response where
  status : Status
  payload : List Byte
deriving DecidableEq, Repr

/-- What the last transaction shifted out on SPI_OUT (R180, R181): nothing yet, a response followed by
bytes 00, or FF in every byte. -/
inductive ShiftOut
  | idle | response (r : Response) | busy
deriving DecidableEq, Repr

/-- The three commands answered in parts (R183). -/
inductive PartsOf
  | queue | peers | stock
deriving DecidableEq, Repr

/-- The snapshot of a read in parts (R183). -/
structure Snapshot where
  of : PartsOf
  parts : List (List Byte)
deriving DecidableEq, Repr

/-- The Command Port. -/
structure PortUnit where
  settings : Option Settings     -- none until CONFIGURE is accepted (R184)
  response : Response            -- the response buffer (R182)
  spiOut : ShiftOut
  snapshot : Option Snapshot
  protection : Bool              -- true is ON (R188)
  alarms : BitVec 32             -- the alarm word (R189)
  mask : BitVec 32               -- the alarm mask (R191)
deriving DecidableEq, Repr

/-- One input qualifier (R186), with the level of its pin and of its last sample. -/
structure Qualifier where
  level : Bool       -- qualified level, true is high
  settled : Bool
  count : Nat        -- settled: consecutive samples that disagree; unsettled: consecutive equal samples
  last : Bool        -- the level of the last sample
  pin : Bool         -- the level on the pin now
deriving DecidableEq, Repr

/-- A qualifier after a restart: unsettled, qualified level low, nothing counted (R186). -/
def Qualifier.blank : Qualifier := ⟨false, false, 0, false, false⟩

/-- The eight input qualifiers (R186). -/
structure LineBank where
  issueA : Qualifier
  issueB : Qualifier
  reelLowA : Qualifier
  reelLowB : Qualifier
  service : Qualifier
  done : Qualifier
  fault : Qualifier
  clean : Qualifier
deriving DecidableEq, Repr

/-- What CAN_TX carries: the recessive level (R115), or the frame under transmission by its identifier
and data bytes (R113). The bits of a frame stay below a step (assumption log 32). -/
inductive CanTx
  | recessive | sending (identifier : Nat) (data : List Byte)
deriving DecidableEq, Repr

/-- The output pins, true is high (00_scope.md, Signals); SPI_OUT stands in the Command Port. The two
lines of the imprint link carry the levels they go through while the state stands: one level, low, when
no record is being sent (R194). -/
structure Outputs where
  printEnable : Bool
  feedEnableA : Bool
  feedEnableB : Bool
  attn : Bool
  canTx : CanTx
  impData : List Bool
  impStrobe : List Bool
deriving DecidableEq, Repr

/-! ## The whole state -/

/-- The state of the block. -/
structure State where
  acct : Accounts
  grants : GrantTable
  slots : Vector Slot 4
  rates : RateUnit
  runs : RunUnit
  job : JobUnit
  stock : StockUnit
  bus : BusUnit
  share : SharingUnit
  refill : RefillUnit
  port : PortUnit
  lines : LineBank
  outs : Outputs
  pending : List Instr     -- the commands that wait, first in, first out (assumption log 1)
deriving DecidableEq, Repr

/-- The start response of R182. -/
def startResponse : Response := ⟨.ok, []⟩

/-- A new part just after its first restart: the nonvolatile state of R1, R7, R16, R21, R39, R59, R64,
R77, R129, R132, R148, R150, R151 and R168, the volatile state of each chapter's restart rule, and
alarm STARTED (R192), which is unmasked, so that ATTN is high. -/
def State.reset : State where
  acct := ⟨0, 0, 0, 0, 0, 0, 0, 0, false, .unconfigured, 0⟩
  grants := ⟨Vector.replicate 63 Grant.blank, 0⟩
  slots := Vector.replicate 4 Slot.blank
  rates := ⟨0, Vector.replicate 32 none, Vector.replicate 32 none, none⟩
  runs := ⟨[], 1, none, [], none, none, [], 0⟩
  job := ⟨[], Walker.blank⟩
  stock := ⟨[], [], 0, 0, 0⟩
  bus := ⟨.quiet, false, [], none, 0, .clear, 0, []⟩
  share := ⟨none, none, none, none, none, 0, 0, [], [], [], 0⟩
  refill := ⟨Config.stationSerial, Config.refillSecret, 0, 0⟩
  port := ⟨none, startResponse, .idle, none, true, 1, 0⟩
  lines := ⟨.blank, .blank, .blank, .blank, .blank, .blank, .blank, .blank⟩
  outs := ⟨false, false, false, true, .recessive, [false], [false]⟩
  pending := []

end Sys2Proof.Machine
end

