-- ==== Sys2Proof/Machine/Ops.lean ====
section
/-! DEFINITION. The named operations over memory, tables and records that every block shares, and the
byte order of R193. -/

namespace Sys2Proof.Machine

/-! ## Bytes (R193: most significant byte first) -/

/-- The n bytes of a number, most significant first. -/
def beBytes : Nat → Nat → List Byte
  | 0, _ => []
  | n + 1, v => BitVec.ofNat 8 (v / 256 ^ n) :: beBytes n v

/-- The number that bytes spell, most significant first. -/
def beNat (bytes : List Byte) : Nat := bytes.foldl (fun acc b => acc * 256 + b.toNat) 0

/-- Addition that stops at 4,294,967,295 (R31, R46, R76, R129, R132). -/
def satAdd (x y : Nat) : Nat := min (x + y) 4294967295

/-- The bits of a byte, most significant first (R180, R194). -/
def byteBits (b : Byte) : List Bool := [7, 6, 5, 4, 3, 2, 1, 0].map b.getLsbD

/-- The stretches of at most 248 bytes an answer is delivered in (R183), n of them. -/
def stretches : Nat → List Byte → List (List Byte)
  | 0, _ => []
  | n + 1, bytes => bytes.take 248 :: stretches n (bytes.drop 248)

/-! ## Job memory (R98) -/

/-- The byte at an address. -/
def Memory.read : Memory → Nat → Byte
  | [], _ => Memory.unlisted
  | c :: rest, a => if c.1 = a then c.2 else Memory.read rest a

/-- The memory without an entry for an address. -/
def Memory.erase (m : Memory) (a : Nat) : Memory := m.filter fun c => c.1 != a

/-- The memory with an entry put in its place; no entry for the address stands in it. -/
def Memory.insert (a : Nat) (b : Byte) : Memory → Memory
  | [] => [(a, b)]
  | c :: rest => if a < c.1 then (a, b) :: c :: rest else c :: Memory.insert a b rest

/-- The memory with a byte written; writing what an unlisted address reads as removes the entry. -/
def Memory.write (m : Memory) (a : Nat) (b : Byte) : Memory :=
  if b = Memory.unlisted then m.erase a else (m.erase a).insert a b

/-- The byte of job memory at an address taken modulo 4,096 (R98). -/
def Memory.jobRead (m : Memory) (a : Nat) : Byte := m.read (a % 4096)

/-- Job memory with bytes written at consecutive addresses from a, wrapping (R98, R99). -/
def Memory.jobWrite (m : Memory) (a : Nat) : List Byte → Memory
  | [] => m
  | b :: rest => Memory.jobWrite (m.write (a % 4096) b) (a + 1) rest

/-- The n bytes of job memory from a, wrapping (R98, R99). -/
def Memory.jobBytes (m : Memory) (a : Nat) : Nat → List Byte
  | 0 => []
  | n + 1 => m.jobRead a :: Memory.jobBytes m (a + 1) n

/-! ## Indexed tables -/

/-- Slot i; a number above 3 names no slot and reads as the slot of a new part. -/
def State.slot (s : State) (i : Nat) : Slot := (s.slots[i]?).getD Slot.blank

/-- The state with slot i replaced. -/
def State.setSlot (s : State) (i : Nat) (sl : Slot) : State :=
  { s with slots := s.slots.setIfInBounds i sl }

/-- The state with slot i changed. -/
def State.modSlot (s : State) (i : Nat) (f : Slot → Slot) : State := s.setSlot i (f (s.slot i))

/-- Grant record g. Record 0 is the fixed null grant (R23). -/
def State.grant (s : State) (g : Nat) : Grant :=
  if g = 0 then Grant.blank else (s.grants.records[g - 1]?).getD Grant.blank

/-- The state with grant record g replaced; record 0 never changes (R23). -/
def State.setGrant (s : State) (g : Nat) (r : Grant) : State :=
  if g = 0 then s
  else { s with grants := { s.grants with records := s.grants.records.setIfInBounds (g - 1) r } }

/-- Entry k of the active table, none when not present (R64). -/
def State.activeRate (s : State) (k : Nat) : Option RateEntry := (s.rates.active[k]?).getD none

/-- Entry k of the pending table, none when not present (R64). -/
def State.pendingRate (s : State) (k : Nat) : Option RateEntry := (s.rates.pending[k]?).getD none

/-- Whether a feeder is among a slot's feeders bound (R39). -/
def Slot.bound (sl : Slot) : Feeder → Bool
  | .a => sl.boundA
  | .b => sl.boundB

/-- The slot record with a feeder bound or not. -/
def Slot.setBound (sl : Slot) (f : Feeder) (on : Bool) : Slot :=
  match f with
  | .a => { sl with boundA := on }
  | .b => { sl with boundB := on }

/-- The slot to which a feeder is bound; a feeder is bound to at most one (R54). -/
def State.boundSlot (s : State) (f : Feeder) : Option Nat :=
  [0, 1, 2, 3].find? fun i => (s.slot i).bound f

/-- The slot in which a grant from 1 to 63 is held (R36, R43). -/
def State.slotHolding (s : State) (g : Nat) : Option Nat :=
  if g = 0 then none
  else [0, 1, 2, 3].find? fun i => (s.slot i).state != .idle && (s.slot i).grant == g

/-- Whether all four slots are IDLE (R37). -/
def State.allIdle (s : State) : Bool := [0, 1, 2, 3].all fun i => (s.slot i).state == .idle

/-! ## Runs -/

/-- The run of the print queue with an id. -/
def State.findRun (s : State) (id : Nat) : Option Run := s.runs.queue.find? fun r => r.id == id

/-- The number of runs of a slot in the print queue (R48, R96). -/
def State.runsOfSlot (s : State) (i : Nat) : Nat := (s.runs.queue.filter fun r => r.slot == i).length

/-- The state with the Run Controller changed. -/
def State.modRuns (s : State) (f : RunUnit → RunUnit) : State := { s with runs := f s.runs }

/-- The state with one run record of the queue changed. -/
def State.modRun (s : State) (id : Nat) (f : Run → Run) : State :=
  s.modRuns fun u => { u with queue := u.queue.map fun r => if r.id = id then f r else r }

/-- The state with the walker record changed. -/
def State.modWalker (s : State) (f : Walker → Walker) : State :=
  { s with job := { s.job with walker := f s.job.walker } }

/-! ## Other blocks -/

/-- The state with the Bus Interface changed. -/
def State.modBus (s : State) (f : BusUnit → BusUnit) : State := { s with bus := f s.bus }

/-- The state with the Sharing Unit changed. -/
def State.modShare (s : State) (f : SharingUnit → SharingUnit) : State :=
  { s with share := f s.share }

/-- The state with the Stock Unit changed. -/
def State.modStock (s : State) (f : StockUnit → StockUnit) : State := { s with stock := f s.stock }

/-- The state with the Command Port changed. -/
def State.modPort (s : State) (f : PortUnit → PortUnit) : State := { s with port := f s.port }

/-- The state with the station mode set. -/
def State.setMode (s : State) (m : Mode) : State := { s with acct := { s.acct with mode := m } }

/-- The own station number; none in QUIET before configuration (R115). -/
def State.station (s : State) : Option Nat := s.port.settings.map (·.station)

/-- Whether CONFIGURE has been accepted since the last restart (R184). -/
def State.configured (s : State) : Bool := s.port.settings.isSome

/-! ## Input qualifiers -/

/-- The qualifier of a line. -/
def LineBank.get (b : LineBank) : Line → Qualifier
  | .issueA => b.issueA
  | .issueB => b.issueB
  | .reelLowA => b.reelLowA
  | .reelLowB => b.reelLowB
  | .service => b.service
  | .done => b.done
  | .fault => b.fault
  | .clean => b.clean

/-- The lines with one qualifier replaced. -/
def LineBank.set (b : LineBank) (l : Line) (q : Qualifier) : LineBank :=
  match l with
  | .issueA => { b with issueA := q }
  | .issueB => { b with issueB := q }
  | .reelLowA => { b with reelLowA := q }
  | .reelLowB => { b with reelLowB := q }
  | .service => { b with service := q }
  | .done => { b with done := q }
  | .fault => { b with fault := q }
  | .clean => { b with clean := q }

/-- The eight lines in the order of R186. -/
def allLines : List Line :=
  [.issueA, .issueB, .reelLowA, .reelLowB, .service, .done, .fault, .clean]

/-- A qualifier brought to a level that a row reports. One that is settled there has taken the level
already, at the sample that reported the edge, and keeps its pin and its count; any other is settled
with nothing counted and its pin at the level, since its last samples agreed with it (R186; assumption
log 23). -/
def Qualifier.taken (q : Qualifier) (level : Bool) : Qualifier :=
  if q.settled ∧ q.level = level then q else ⟨level, true, 0, level, level⟩

/-- A line brought to a qualified level (R186; assumption log 23). -/
def State.takeLevel (s : State) (l : Line) (level : Bool) : State :=
  { s with lines := s.lines.set l ((s.lines.get l).taken level) }

end Sys2Proof.Machine
end

