-- ==== Sys2Proof/Machine/Flags.lean ====
section
/-! DEFINITION. The flags: the alarm word and its mask (R189 to R191), ATTN, and the flag byte of a
STANDING (R193). -/

namespace Sys2Proof.Machine

/-- The 29 alarms. -/
inductive Alarm
  | started | runEnded | jammed | mechTimeout | lateOutcome | lowCredit | contactDue
  | contactLocked | exhausted | ratesSwapped | jobStopped | grantShort | reelLowA | reelLowB
  | reelEmpty | reelConflict | adjusted | unaccountedIssue | lateIssue | transferIn | transferOut
  | wantFailed | unresolved | straySettlement | duplicateStation | daySkew | busOff | txOverflow
  | refillDone
deriving DecidableEq, Repr

/-- The bit of an alarm in the alarm word (section "The alarm word"). -/
def Alarm.bit : Alarm → Nat
  | .started => 0
  | .runEnded => 1
  | .jammed => 2
  | .mechTimeout => 3
  | .lateOutcome => 4
  | .lowCredit => 5
  | .contactDue => 6
  | .contactLocked => 7
  | .exhausted => 8
  | .ratesSwapped => 9
  | .jobStopped => 10
  | .grantShort => 11
  | .reelLowA => 12
  | .reelLowB => 13
  | .reelEmpty => 14
  | .reelConflict => 15
  | .adjusted => 16
  | .unaccountedIssue => 17
  | .lateIssue => 18
  | .transferIn => 19
  | .transferOut => 20
  | .wantFailed => 21
  | .unresolved => 22
  | .straySettlement => 23
  | .duplicateStation => 24
  | .daySkew => 25
  | .busOff => 26
  | .txOverflow => 27
  | .refillDone => 28

/-- The word with the one bit of an alarm. -/
def Alarm.word (a : Alarm) : BitVec 32 := 1#32 <<< a.bit

/-- Bits 0 to 28, the bits that hold alarms. -/
def alarmBits : BitVec 32 := 0x1FFFFFFF#32

/-- The state with an alarm raised; raising a flag that is set leaves it set (R189). -/
def State.raise (s : State) (a : Alarm) : State :=
  s.modPort fun p => { p with alarms := p.alarms ||| a.word }

/-- The state with an alarm raised when a condition holds. -/
def State.raiseIf (s : State) (c : Bool) (a : Alarm) : State := if c then s.raise a else s

/-- Whether an alarm's flag is set. -/
def State.alarm (s : State) (a : Alarm) : Bool := s.port.alarms &&& a.word != 0#32

/-- The level of ATTN: at least one flag set whose mask bit is zero (R191). -/
def State.attnLevel (s : State) : Bool := s.port.alarms &&& ~~~s.port.mask != 0#32

/-- The flag byte of a STANDING (R193): bit 0 wanting, 1 contact-due, 2 contact-locked, 3 exhausted. -/
def StandingFlags.toNat (f : StandingFlags) : Nat :=
  f.wanting.toNat + 2 * f.contactDue.toNat + 4 * f.contactLocked.toNat + 8 * f.exhausted.toNat

/-- The flags of a received STANDING; bits the format does not define are ignored (R114). -/
def StandingFlags.ofByte (b : Byte) : StandingFlags :=
  ⟨b.getLsbD 0, b.getLsbD 1, b.getLsbD 2, b.getLsbD 3⟩

/-- The flags the station announces now (R122). -/
def State.standingFlags (s : State) : StandingFlags :=
  ⟨s.share.want.isSome, s.acct.mode == .contactDue, s.acct.mode == .contactLocked,
    s.acct.mode == .exhausted⟩

end Sys2Proof.Machine
end

