-- ==== Sys2Proof/Machine/SlotOps.lean ====
section
/-! DEFINITION. The Grant Table's and the Slot Unit's shared operations: effective amount (R28),
headroom (R44), usage returned (R34), the close of a slot (R51) and its evaluation at a run's end (R52). -/

namespace Sys2Proof.Machine

/-- The effective amount of a grant (R28). -/
def Grant.effective (g : Grant) : Nat := if g.coarse then g.amount * 100 else g.amount

/-- The headroom of a slot (R44). -/
def Slot.headroom (sl : Slot) : Nat :=
  if sl.state = .idle ∨ sl.grant = 0 then 0
  else
    match sl.kind with
    | .capped => sl.effective - sl.spentAtOpen - sl.printDelta - sl.stockDelta
    | .prepaid => sl.effective - sl.printDelta - sl.stockDelta

/-- Print delta plus stock delta. -/
def Slot.deltas (sl : Slot) : Nat := sl.printDelta + sl.stockDelta

/-- A grant record with a slot's usage returned (R34). -/
def Grant.takeUsage (g : Grant) (sl : Slot) : Grant :=
  { g with
    spent := satAdd g.spent sl.deltas
    imprints := satAdd g.imprints sl.imprints
    stamps := satAdd g.stamps sl.stamps
    amount := if g.kind = .prepaid then g.amount - sl.deltas else g.amount }

/-- Whether the clamp acts: the deltas exceed a PREPAID amount (R34). -/
def Grant.clamps (g : Grant) (sl : Slot) : Bool :=
  g.kind == .prepaid && decide (g.amount < sl.deltas)

/-- The close of slot i for a reason (R51): usage returned when it is on a grant from 1 to 63, the
record IDLE with its feeders and run in progress unbound, and GRANT_SHORT when the clamp acted. -/
def State.closeSlot (s : State) (i : Nat) (reason : CloseReason) : State :=
  let sl := s.slot i
  let clamped := sl.grant != 0 && (s.grant sl.grant).clamps sl
  let s1 := s.setGrant sl.grant ((s.grant sl.grant).takeUsage sl)
  let s2 := s1.setSlot i
    { sl with
      state := .idle, boundA := false, boundB := false, run := none, closeReason := reason,
      clampActed := clamped }
  s2.raiseIf clamped .grantShort

/-- The evaluation of a slot when its run `id` has ended (R52). -/
def State.slotRunEnded (s : State) (i id : Nat) : State :=
  let s1 := s.modSlot i fun sl => if sl.run = some id then { sl with run := none } else sl
  if (s1.slot i).state = .closing ∧ s1.runsOfSlot i = 0 then
    s1.closeSlot i (s1.slot i).closeReason
  else s1

/-- The start of a run told to its slot (R53, R56): the run in progress, and CLOSING with reason AUTO
for a run with the auto-close flag on an OPEN slot. -/
def State.slotRunStarted (s : State) (r : Run) : State :=
  s.modSlot r.slot fun sl =>
    if r.autoClose ∧ sl.state = .opened then
      { sl with run := some r.id, state := .closing, closeReason := .auto }
    else { sl with run := some r.id }

end Sys2Proof.Machine
end

