-- ==== Sys2Proof/Machine/Values.lean ====
section
/-! DEFINITION. The Rate Unit's computations: the imprint value (R70 to R73), the day advance with the
swap (R61, R68), and the contact evaluation of the Refill Check (R175). -/

namespace Sys2Proof.Machine

/-- The weight steps of an entry, or OVERWEIGHT (R71, steps 2 to 4). A weight of 0 is taken as Wb. -/
def RateEntry.steps (e : RateEntry) (weight : Nat) : Except EndReason Nat :=
  let w := if weight = 0 then e.baseWeight else weight
  if e.maxWeight < w ∨ (e.stepWeight = 0 ∧ e.baseWeight < w) then .error .overweight
  else if w ≤ e.baseWeight then .ok 0
  else .ok ((w - e.baseWeight + e.stepWeight - 1) / e.stepWeight)

/-- The bulk discount of a gross value (R73); none for a continuous run. -/
def RateEntry.discountOf (e : RateEntry) (count : Option Nat) (gross : Nat) : Nat :=
  match count with
  | none => 0
  | some c => if e.threshold ≠ 0 ∧ e.threshold ≤ c then (gross * e.discount + 500) / 1000 else 0

/-- The net value of an entry for a weight and a count (R71 to R73). -/
def RateEntry.value (e : RateEntry) (weight : Nat) (count : Option Nat) : Except EndReason Nat :=
  match e.steps weight with
  | .error reason => .error reason
  | .ok steps =>
    let gross := e.base + steps * e.stepValue
    if 999999 < gross then .error .tooLarge
    else .ok (max 1 (gross - e.discountOf count gross))

/-- The value computation of a run at its start (R70). -/
def State.valueOf (s : State) (r : Run) : Except EndReason Nat :=
  match r.direct with
  | some v => .ok v
  | none =>
    match s.activeRate r.tariff with
    | none => .error .rateMissing
    | some e => e.value r.weight r.count

/-- The all-or-none check fails: the run is counted, carries the flag, and its total is above AVAIL or
above the slot's headroom (R74). -/
def State.shortFor (s : State) (r : Run) (v : Nat) : Bool :=
  match r.count with
  | none => false
  | some c =>
    r.allOrNone && (decide (s.acct.avail < v * c) || decide ((s.slot r.slot).headroom < v * c))

/-! ## The postal day -/

/-- Whether a day brings the swap: the effective day is set and the day is at or above it (R68). -/
def RateUnit.swapDue (u : RateUnit) (day : Nat) : Bool :=
  match u.effectiveDay with
  | none => false
  | some e => decide (e ≤ day)

/-- The pending table put into force (R68). -/
def RateUnit.swap (u : RateUnit) : RateUnit :=
  { u with active := u.pending, pending := Vector.replicate 32 none, effectiveDay := none }

/-- The day advance to a greater day (R61): the day, the first last contact day, and the swap when due.
The effects that follow its update are the caller's. -/
def State.dayAdvance (s : State) (day : Nat) : State :=
  let u := if s.rates.swapDue day then s.rates.swap else s.rates
  let contact := if s.rates.day = 0 ∧ s.refill.lastContact = 0 then day else s.refill.lastContact
  { s with rates := { u with day := day }, refill := { s.refill with lastContact := contact } }

/-! ## The contact deadline -/

/-- The outcome of a contact evaluation for day D, last contact day C and CONTACT_DAYS K (R175). -/
def contactOutcome (d c k : Nat) : Mode :=
  if c + k < d then .contactLocked
  else if 5 < k ∧ c + k - 5 ≤ d then .contactDue
  else .active

/-- The contact evaluation: the mode set and its alarm raised (R175). EXHAUSTED stays (R17), and an
outcome equal to the mode changes nothing. -/
def State.evalContact (s : State) : State :=
  match s.port.settings with
  | none => s
  | some c =>
    let m := contactOutcome s.rates.day s.refill.lastContact c.contactDays
    if s.acct.mode = .exhausted ∨ s.acct.mode = m then s
    else ((s.setMode m).raiseIf (m == .contactDue) .contactDue).raiseIf (m == .contactLocked) .contactLocked

end Sys2Proof.Machine
end

