-- ==== Sys2Proof/Machine/Operands.lean ====
section
/-! DEFINITION. The operand forms: the fields of command payloads, of received frames and of job
lines, as the layouts of R193 place them. -/

namespace Sys2Proof.Machine

/-- The number in `len` bytes of a payload from byte `off`, most significant byte first (R193). -/
def field (p : List Byte) (off len : Nat) : Nat := beNat ((p.drop off).take len)

/-- The flags byte at a place of a payload. -/
def flagsByte (p : List Byte) (off : Nat) : Byte := (p[off]?).getD 0

/-- A feeder code: 0 is A, 1 is B (section "Command payloads"). -/
def feederOf (code : Nat) : Option Feeder :=
  match code with
  | 0 => some .a
  | 1 => some .b
  | _ => none

/-! ## START RUN -/

/-- The fields of a START RUN payload (section "Command payloads"). -/
structure RunArgs where
  slot : Nat
  tariff : Nat
  weight : Nat
  count : Nat
  direct : Nat
  flags : Byte
  endorsements : List Nat
deriving DecidableEq, Repr

/-- The fields of a START RUN payload: one endorsement per byte after the tenth. -/
def runArgs (p : List Byte) : RunArgs where
  slot := field p 0 1
  tariff := field p 1 1
  weight := field p 2 2
  count := field p 4 2
  direct := field p 6 3
  flags := flagsByte p 9
  endorsements := (p.drop 10).map (·.toNat)

/-- Flag bits 7 auto-close, 6 all-or-none, 5 continuous. -/
def RunArgs.autoClose (a : RunArgs) : Bool := a.flags.getLsbD 7
def RunArgs.allOrNone (a : RunArgs) : Bool := a.flags.getLsbD 6
def RunArgs.continuous (a : RunArgs) : Bool := a.flags.getLsbD 5

/-- Check 5 of R78: form and ranges. -/
def RunArgs.ok (a : RunArgs) : Bool :=
  decide (a.tariff ≤ 31 ∨ a.tariff = 255) &&
  decide (a.tariff = 255 → 1 ≤ a.direct ∧ a.direct ≤ 999999) &&
  decide (a.weight ≤ 30000) &&
  (a.continuous || decide (1 ≤ a.count ∧ a.count ≤ 9999)) &&
  decide (a.endorsements.length ≤ 8) &&
  (a.endorsements.all fun e => decide (1 ≤ e ∧ e ≤ 126)) &&
  decide (a.flags.toNat % 32 = 0) &&
  !(a.autoClose && a.continuous)

/-! ## WRITE GRANT -/

/-- The record a WRITE GRANT payload carries; the three figures it does not write stay as in `old`
(R32, R193). -/
def grantOfPayload (p : List Byte) (old : Grant) : Grant where
  present := (flagsByte p 1).getLsbD 0
  dept := field p 2 2
  kind := if (flagsByte p 1).getLsbD 1 then .prepaid else .capped
  coarse := (flagsByte p 1).getLsbD 2
  amount := field p 4 3
  level := field p 7 1
  accessed := (flagsByte p 1).getLsbD 3
  spent := field p 8 4
  spentLast := old.spentLast
  imprints := old.imprints
  stamps := old.stamps

/-! ## WRITE PENDING RATE -/

/-- The entry values of a WRITE PENDING RATE payload: the tariff code, then the 17 bytes of the entry
(section "Rate entry"). -/
def rateOfPayload (p : List Byte) : RateEntry where
  base := field p 2 3
  baseWeight := field p 5 2
  stepWeight := field p 7 2
  stepValue := field p 9 3
  maxWeight := field p 12 2
  threshold := field p 14 2
  discount := field p 16 2

/-- Checks 3 to 5 of R65 on an entry: the ranges of R64, Wm not below Wb, N not 1. -/
def RateEntry.ok (e : RateEntry) : Bool :=
  decide (1 ≤ e.base ∧ e.base ≤ 99999) && decide (1 ≤ e.baseWeight ∧ e.baseWeight ≤ 9999) &&
  decide (e.stepWeight ≤ 9999) && decide (e.stepValue ≤ 99999) &&
  decide (1 ≤ e.maxWeight ∧ e.maxWeight ≤ 30000) && decide (e.threshold ≤ 9999) &&
  decide (e.discount ≤ 500) && decide (e.baseWeight ≤ e.maxWeight) && decide (e.threshold ≠ 1)

/-! ## CONFIGURE -/

/-- The eleven values of a CONFIGURE payload, in the order of R184; a STANDING_INTERVAL of 0 is the
default of 5 s. -/
def settingsOfPayload (p : List Byte) : Settings where
  station := field p 0 1
  busRate := field p 1 1
  ceiling := field p 2 4
  lowWater := field p 6 4
  target := field p 10 4
  reserve := field p 14 4
  maxPledge := field p 18 3
  interval := if field p 21 1 = 0 then 5 else field p 21 1
  contactDays := field p 22 1
  qSensor := field p 23 1
  qMech := field p 24 1

/-- Check 2 of R184: every field in its range. -/
def Settings.ok (c : Settings) : Bool :=
  decide (1 ≤ c.station ∧ c.station ≤ 30) && decide (c.busRate = 125 ∨ c.busRate = 250) &&
  decide (1 ≤ c.ceiling ∧ c.ceiling ≤ 999999999) && decide (c.lowWater ≤ c.ceiling) &&
  decide (c.lowWater ≤ c.target ∧ c.target ≤ c.ceiling) && decide (c.reserve ≤ c.ceiling) &&
  decide (100 ≤ c.maxPledge ∧ c.maxPledge ≤ 16777215) &&
  decide (2 ≤ c.interval ∧ c.interval ≤ 30) &&
  decide (1 ≤ c.contactDays ∧ c.contactDays ≤ 120) &&
  decide (1 ≤ c.qSensor ∧ c.qSensor ≤ 15) && decide (1 ≤ c.qMech ∧ c.qMech ≤ 15)

/-! ## Refill record -/

/-- The five fields of a refill record (R169). -/
structure RefillRecord where
  serial : BitVec 32
  number : Nat
  amount : Nat
  bankDay : Nat
  check : BitVec 32
deriving DecidableEq, Repr

/-- The refill record of an APPLY REFILL payload (section "Refill record and receipt"). -/
def refillOfPayload (p : List Byte) : RefillRecord where
  serial := BitVec.ofNat 32 (field p 0 4)
  number := field p 4 2
  amount := field p 6 4
  bankDay := field p 10 2
  check := BitVec.ofNat 32 (field p 12 4)

/-! ## Job line -/

/-- The endorsements of a job line from an address, and the address after the terminator; none for a
wrong byte in an endorsement position or a ninth byte that is not the terminator (R105, checks 6 and
7). `n` is the number of endorsements still allowed. -/
def readEndorsements (m : Memory) : Nat → Nat → Option (List Nat × Nat)
  | 0, a => if m.jobRead a = 127#8 then some ([], a + 1) else none
  | n + 1, a =>
    let b := (m.jobRead a).toNat
    if b = 127 then some ([], a + 1)
    else if b = 0 ∨ 127 < b then none
    else (readEndorsements m n (a + 1)).map fun r => (b :: r.1, r.2)

/-- The job line at an address with the attributes given, or none when a part is wrong (R100, R101,
R105). The link word holds AUTO_CLOSE in bit 15, ALL_OR_NONE in 14, HOLD in 13, END in 12. -/
def parseLine (m : Memory) (a : Nat) (allOrNone autoClose : Bool) : Option LineCopy :=
  let num (off len : Nat) : Nat := beNat (m.jobBytes (a + off) len)
  let tariff := num 1 1
  let direct := num 6 3
  if 3 < num 0 1 ∨ (31 < tariff ∧ tariff < 255) ∨ 30000 < num 2 2 ∨ num 4 2 = 0 ∨ 9999 < num 4 2
      ∨ (tariff = 255 ∧ (direct = 0 ∨ 999999 < direct)) then none
  else
    (readEndorsements m 8 (a + if tariff = 255 then 9 else 6)).map fun r =>
      let link := beNat (m.jobBytes r.2 2)
      { slot := num 0 1
        tariff := tariff
        weight := num 2 2
        count := num 4 2
        direct := if tariff = 255 then some direct else none
        endorsements := r.1
        linkEnd := link.testBit 12
        linkHold := link.testBit 13
        linkAllOrNone := link.testBit 14
        linkAutoClose := link.testBit 15
        linkNext := link % 4096
        allOrNone := allOrNone
        autoClose := autoClose }

/-! ## Received frames -/

/-- The frame that a kind code and data bytes spell, or none for a kind that does not exist or a data
length other than the kind's (R113; R114, checks 5 and 6). -/
def busFrameOf (kind : Nat) (d : List Byte) : Option BusFrame :=
  let dest : BitVec 8 := (d[0]?).getD 0
  let w16 (off : Nat) : BitVec 16 := BitVec.ofNat 16 (field d off 2)
  let w24 (off : Nat) : BitVec 24 := BitVec.ofNat 24 (field d off 3)
  let w32 (off : Nat) : BitVec 32 := BitVec.ofNat 32 (field d off 4)
  match kind, d.length with
  | 4, 8 => some (.settled dest (w16 1) (w16 3) (w24 5))
  | 5, 5 => some (.received dest (w16 1) (w16 3))
  | 8, 8 => some (.take dest (w16 1) (w16 3) (w24 5))
  | 9, 5 => some (.void dest (w16 1) (w16 3))
  | 10, 5 => some (.ask dest (w16 1) (w16 3))
  | 11, 5 => some (.waive dest (w16 1) (w16 3))
  | 16, 8 => some (.pledge dest (w16 1) (w16 3) (w24 5))
  | 20, 5 => some (.want (w16 0) (w24 2))
  | 32, 8 => some (.reelNote .mounted (w32 0) (w16 4) (w16 6))
  | 33, 4 => some (.reelAsk (w32 0))
  | 34, 8 => some (.reelNote .released (w32 0) (w16 4) (w16 6))
  | 35, 8 => some (.reelNote .empty (w32 0) (w16 4) (w16 6))
  | 48, 6 => some (.standing (w24 0) (w16 3) ((d[5]?).getD 0))
  | _, _ => none

end Sys2Proof.Machine

namespace Sys2Proof

/-- The "to" field of an addressed kind (R113). -/
def BusFrame.dest? : BusFrame → Option Nat
  | .settled dest _ _ _ | .take dest _ _ _ | .pledge dest _ _ _ => some dest.toNat
  | .received dest _ _ | .void dest _ _ | .ask dest _ _ | .waive dest _ _ => some dest.toNat
  | .want _ _ | .reelNote _ _ _ _ | .reelAsk _ | .standing _ _ _ => none

/-- The kind code of a frame (R113). -/
def BusFrame.code : BusFrame → Nat
  | .settled _ _ _ _ => 4
  | .received _ _ _ => 5
  | .take _ _ _ _ => 8
  | .void _ _ _ => 9
  | .ask _ _ _ => 10
  | .waive _ _ _ => 11
  | .pledge _ _ _ _ => 16
  | .want _ _ => 20
  | .reelNote .mounted _ _ _ => 32
  | .reelAsk _ => 33
  | .reelNote .released _ _ _ => 34
  | .reelNote .empty _ _ _ => 35
  | .standing _ _ _ => 48

/-- The data bytes of a frame (section "Bus identifier and frame data"). -/
def BusFrame.data : BusFrame → List Byte
  | .settled dest w p a | .take dest w p a | .pledge dest w p a =>
    dest :: (Machine.beBytes 2 w.toNat ++ Machine.beBytes 2 p.toNat ++ Machine.beBytes 3 a.toNat)
  | .received dest w p | .void dest w p | .ask dest w p | .waive dest w p =>
    dest :: (Machine.beBytes 2 w.toNat ++ Machine.beBytes 2 p.toNat)
  | .want w a => Machine.beBytes 2 w.toNat ++ Machine.beBytes 3 a.toNat
  | .reelNote _ id r d => Machine.beBytes 4 id.toNat ++ Machine.beBytes 2 r.toNat ++ Machine.beBytes 2 d.toNat
  | .reelAsk id => Machine.beBytes 4 id.toNat
  | .standing sp d f => Machine.beBytes 3 sp.toNat ++ Machine.beBytes 2 d.toNat ++ [f]

/-- The identifier of a frame sent by a station (R113). -/
def BusFrame.identifier (f : BusFrame) (station : Nat) : Nat := f.code * 32 + station

end Sys2Proof
end

