-- ==== Sys2Proof/Machine/Postings.lean ====
section
/-! DEFINITION. The Accounting Unit: the postings of section 1.3, committed room, surplus, and the
alarm of a crossing of LOW_WATER. -/

namespace Sys2Proof.Machine

/-- The USED maximum (R1). -/
def usedMax : Nat := 1099511627775

/-- The largest value of a 48-bit total (R132, R151). -/
def totalMax : Nat := 281474976710655

/-- The postings of section 1.3, each with its amount; a VOID takes the amount out of INCOMING as an
unresolved entry discarded does (R13). The outcome postings act on the whole of HELD (R10). -/
inductive Posting
  | authorise (v : Nat)
  | imprintDone
  | failedClean
  | uncertain
  | pledge (a : Nat)
  | pledgeReturned (a : Nat)
  | pledgeConcluded (a : Nat)
  | takePledge (a : Nat)
  | settlement (a : Nat)
  | refill (r : Nat)
  | discarded (a : Nat)
  | voided (a : Nat)
deriving DecidableEq, Repr

/-- The register movements of a posting: the summary table of section 1.3. The authorise posting also
raises the imprint number, which wraps (R7, R8). -/
def Accounts.post (acc : Accounts) : Posting → Accounts
  | .authorise v =>
    { acc with
      avail := acc.avail - v, held := acc.held + v, imprintNo := (acc.imprintNo + 1) % 4294967296 }
  | .imprintDone => { acc with held := 0, used := acc.used + acc.held }
  | .failedClean => { acc with held := 0, avail := acc.avail + acc.held }
  | .uncertain =>
    { acc with held := 0, used := acc.used + acc.held, spoiled := acc.spoiled + acc.held }
  | .pledge a => { acc with avail := acc.avail - a, escrow := acc.escrow + a }
  | .pledgeReturned a => { acc with avail := acc.avail + a, escrow := acc.escrow - a }
  | .pledgeConcluded a => { acc with escrow := acc.escrow - a, control := acc.control - a }
  | .takePledge a => { acc with incoming := acc.incoming + a }
  | .settlement a =>
    { acc with avail := acc.avail + a, control := acc.control + a, incoming := acc.incoming - a }
  | .refill r => { acc with avail := acc.avail + r, control := acc.control + r }
  | .discarded a => { acc with incoming := acc.incoming - a }
  | .voided a => { acc with incoming := acc.incoming - a }

/-- LOW_WATER; 0, at which the alarm is not raised, while there is none (R14). -/
def State.lowWater (s : State) : Nat := (s.port.settings.map (·.lowWater)).getD 0

/-- CEILING; it reads 0 before configuration (R3). -/
def State.ceiling (s : State) : Nat := (s.port.settings.map (·.ceiling)).getD 0

/-- AVAIL + HELD + ESCROW + INCOMING, the sum the second law bounds (R3). -/
def Accounts.ceilingSum (acc : Accounts) : Nat :=
  acc.avail + acc.held + acc.escrow + acc.incoming

/-- Committed room (R3); 0 before configuration. -/
def State.room (s : State) : Nat := s.ceiling - s.acct.ceilingSum

/-- The station's surplus by mode (R19, R122). In UNCONFIGURED no surplus is used; it is 0. -/
def State.surplus (s : State) : Nat :=
  match s.acct.mode with
  | .active | .contactDue => s.acct.avail - (s.port.settings.map (·.reserve)).getD 0
  | .exhausted => s.acct.avail
  | .contactLocked | .unconfigured => 0

/-- The state with a posting made, and LOW_CREDIT raised when it takes AVAIL below LOW_WATER from a
value at or above it (R8, R14). -/
def State.post (s : State) (p : Posting) : State :=
  let acc := s.acct.post p
  ({ s with acct := acc } : State).raiseIf
    (decide (s.lowWater ≤ s.acct.avail) && decide (acc.avail < s.lowWater)) .lowCredit

end Sys2Proof.Machine
end

