-- ==== Sys2Proof/Machine/BusQueue.lean ====
section
/-! DEFINITION. The Bus Interface's sending side: the transmit queue (R120, R121), the forming of a
STANDING (R122) and the causes on which one is sent (R123). -/

namespace Sys2Proof.Machine

/-- Whether the station sends: JOINING or ACTIVE (section 7.2). -/
def State.busSends (s : State) : Bool := s.bus.state == .joining || s.bus.state == .active

/-- Whether the station receives: JOINING, ACTIVE or SILENCED (R114). -/
def State.busReceives (s : State) : Bool := s.busSends || s.bus.state == .silenced

/-- A frame put into its place: lowest identifier first, oldest first among equals (R120). Every frame
carries the own number, so the order is by kind code. -/
def txInsert (f : BusFrame) : List TxEntry → List TxEntry
  | [] => [⟨f, false⟩]
  | e :: rest => if f.code < e.frame.code then ⟨f, false⟩ :: e :: rest else e :: txInsert f rest

/-- The front of the queue's order, loaded (R120). -/
def txLoad : List TxEntry → List TxEntry
  | [] => []
  | e :: rest => ⟨e.frame, true⟩ :: rest

/-- The front frame is loaded when none is and the controller is on the bus (R118, R120). -/
def State.loadFront (s : State) : State :=
  if s.bus.controllerOn && s.bus.tx.all fun e => !e.loaded then
    s.modBus fun b => { b with tx := txLoad b.tx }
  else s

/-- A frame other than a STANDING handed over, without loading the front: the table of R121. -/
def State.enqueue (s : State) (f : BusFrame) : State :=
  if s.busSends then
    if s.bus.tx.any fun e => e.frame == f then s
    else if s.bus.tx.length < 16 then s.modBus fun b => { b with tx := txInsert f b.tx }
    else s.raise .txOverflow
  else s

/-- A frame other than a STANDING handed over to the Bus Interface (R121). -/
def State.handOver (s : State) (f : BusFrame) : State := (s.enqueue f).loadFront

/-- Whether an entry is a STANDING that waits, not loaded. -/
def TxEntry.waitingStanding (e : TxEntry) : Bool :=
  !e.loaded && match e.frame with | .standing _ _ _ => true | _ => false

/-- The SETTLED of an out-record entry (R161). -/
def Transfer.settled (t : Transfer) : BusFrame :=
  .settled (BitVec.ofNat 8 t.station) (BitVec.ofNat 16 t.wantNo) (BitVec.ofNat 16 t.pledgeNo)
    (BitVec.ofNat 24 t.amount)

/-- SETTLED handed over again for every out-record entry, oldest first (R123, R161). -/
def State.resendSettled (s : State) : State :=
  s.share.outRecord.foldl (fun s t => s.enqueue t.settled) s

/-- The STANDING formed from the state as it stands (R122). -/
def State.formStanding (s : State) : BusFrame :=
  .standing (BitVec.ofNat 24 (min s.surplus 16777215)) (BitVec.ofNat 16 s.rates.day)
    (BitVec.ofNat 8 s.standingFlags.toNat)

/-- STANDING_INTERVAL in milliseconds (R123). -/
def State.intervalMs (s : State) : Nat := (s.port.settings.map (·.interval)).getD 5 * 1000

/-- A STANDING put into the queue as R121 gives, with the announced figures kept (R123). On a full
queue it is discarded and the figures stay (assumption log 17). -/
def State.placeStanding (s : State) : State :=
  let f := s.formStanding
  let announced (b : BusUnit) : BusUnit :=
    { b with announcedSurplus := min s.surplus 16777215, announcedFlags := s.standingFlags }
  if s.bus.tx.any (·.waitingStanding) then
    s.modBus fun b => announced
      { b with tx := b.tx.map fun e => if e.waitingStanding then ⟨f, false⟩ else e }
  else if s.bus.tx.length < 16 then
    s.modBus fun b => announced { b with tx := txInsert f b.tx }
  else s.raise .txOverflow

/-- A STANDING formed and handed to the queue: the STANDING timer starts again, and SETTLED is handed
over for every out-record entry before the front is loaded, so that it leaves first (R123, R161;
assumption log 18). -/
def State.handStanding (s : State) : State :=
  if s.busSends then
    ((s.placeStanding.modBus fun b => { b with standingTimer := some s.intervalMs }).resendSettled).loadFront
  else s

/-- Whether what the last STANDING announced has changed in a way peers act on: a flag, or the surplus
across TRANSFER_MIN (R123). -/
def State.standingChanged (s : State) : Bool :=
  s.standingFlags != s.bus.announcedFlags ||
    decide (s.bus.announcedSurplus < 100) != decide (s.surplus < 100)

/-- The Bus Interface's evaluation after a posting that changes AVAIL, a change of mode, or the opening
or closing of a want (R123). -/
def State.evalStanding (s : State) : State :=
  if s.busSends && s.standingChanged then s.handStanding else s

/-- Entering JOINING: the controller's part of it as given, a STANDING formed and queued, and its timer
started (R115, R118). -/
def State.enterJoining (s : State) (controllerOn : Bool) : State :=
  (s.modBus fun b => { b with state := .joining, controllerOn := controllerOn }).handStanding

end Sys2Proof.Machine
end

