-- ==== Sys2Proof/Machine/Wants.lean ====
section
/-! DEFINITION. The Sharing Unit's conditions for a WANT (R153, R154), the closing of a want (R148), and
the evaluations that follow a posting or a change of mode. -/

namespace Sys2Proof.Machine

/-- The number after a want or pledge number: after 65,535 comes 1 (R148). -/
def nextNumber (n : Nat) : Nat := if 65535 ≤ n then 1 else n + 1

/-- The six conditions of R154. -/
def State.wantConditions (s : State) : Bool :=
  (s.acct.mode == .active || s.acct.mode == .contactDue) && s.bus.state == .active &&
  s.share.want.isNone && decide (s.share.unresolved.length < 4) && s.share.retry.isNone &&
  (decide (s.acct.avail < s.lowWater) || s.share.request.isSome)

/-- TARGET (R152). -/
def State.target (s : State) : Nat := (s.port.settings.map (·.target)).getD 0

/-- The amount asked: the least of the base, the committed room and 16,777,215 (R154). A base below 0
counts as 0, which is below 100 as well. -/
def State.wantAmount (s : State) : Nat :=
  let base := s.share.request.getD (s.target - s.acct.avail - s.acct.incoming)
  min (min base s.room) 16777215

/-- The want made ASKED in one update, the WANT handed over, the want window started, and the STANDING
that the wanting flag brings (R154, R123). -/
def State.openWant (s : State) : State :=
  let no := nextNumber s.share.lastWant
  let w : Want := ⟨no, s.wantAmount, s.share.request.isSome, none⟩
  let s1 := s.modShare fun u => { u with want := some w, lastWant := no, request := none, wantWindow := some 1000 }
  (s1.handOver (.want (BitVec.ofNat 16 no) (BitVec.ofNat 24 s.wantAmount))).evalStanding

/-- The evaluation of R154: at most one WANT, and a pending request cleared with WANT_FAILED when the
amount comes out below 100. -/
def State.evalWant (s : State) : State :=
  if s.wantConditions then
    if 100 ≤ s.wantAmount then s.openWant
    else if s.share.request.isSome then
      (s.modShare fun u => { u with request := none }).raise .wantFailed
    else s
  else s

/-- The open want removed and the retry interval started (R148, R153); its window and its settle timer
stop with it. -/
def State.closeWant (s : State) : State :=
  s.modShare fun u => { u with want := none, wantWindow := none, settleTimer := none, retry := some 5000 }

/-- What the neighbours do after a posting that changed AVAIL: the Bus Interface evaluates its standing,
then the Sharing Unit its conditions (R123, R154, R173; assumption log 19). -/
def State.afterAvail (s : State) : State := s.evalStanding.evalWant

/-- The mode becomes EXHAUSTED and a request held then is cleared with WANT_FAILED (R18, R153). -/
def State.enterExhausted (s : State) : State :=
  let s1 : State := { s with acct := { s.acct with exhaustedMark := true, mode := .exhausted } }
  let s2 := s1.raise .exhausted
  let s3 := (s2.modShare fun u => { u with request := none }).raiseIf s.share.request.isSome .wantFailed
  s3.afterAvail

end Sys2Proof.Machine
end

