-- ==== Sys2Proof/Machine/RunOps.lean ====
section
/-! DEFINITION. The Run Controller's and the Job Walker's shared operations: appending a run (R77, R79),
the walker's fetch and append (R105, R106), the end of a run (R94), the authorisation of an imprint
(R83, R84), the start of the head run (R81, R82), end requests (R92) and outcomes (R86 to R90). -/

namespace Sys2Proof.Machine

/-! ## Appending -/

/-- The id after an id: after 255 comes 1 (R77). -/
def nextRunId (n : Nat) : Nat := if 255 ≤ n then 1 else n + 1

/-- The first id from `n` on that no run of the queue holds; `k` ids may be passed over (R77). -/
def freeRunId (ids : List Nat) : Nat → Nat → Nat
  | 0, n => n
  | k + 1, n => if n ∈ ids then freeRunId ids k (nextRunId n) else n

/-- The id the next accepted run takes (R77). -/
def State.newRunId (s : State) : Nat :=
  freeRunId (s.runs.queue.map (·.id)) s.runs.queue.length s.runs.nextId

/-- The run appended at the tail as QUEUED with the new id, and the counter moved (R77, R79). The run
is considered for start by the caller. -/
def State.appendRun (s : State) (r : Run) : State :=
  s.modRuns fun u =>
    { u with queue := u.queue ++ [{ r with id := s.newRunId }], nextId := nextRunId s.newRunId }

/-- A run record at acceptance, its id not yet given (R76). -/
def newRun (source : Source) (slot tariff : Nat) (direct : Option Nat) (weight : Nat)
    (count : Option Nat) (allOrNone autoClose : Bool) (endorsements : List Nat) : Run :=
  ⟨0, source, slot, tariff, direct, weight, count, allOrNone, autoClose, endorsements, 0, 0, 0, 0, [],
    .queued, none⟩

/-! ## The walker -/

/-- The walker FAULTED with a reason at its line address, and JOB_STOPPED (R105, R106, R108, R111). -/
def State.walkerFault (s : State) (reason : StopReason) : State :=
  (s.modWalker fun w =>
    { w with state := .faulted, stopReason := reason, stopAddress := w.lineAddress }).raise .jobStopped

/-- A slot fit for a job line: OPEN on a grant from 1 to 63 (R106). -/
def State.slotFit (s : State) (i : Nat) : Bool :=
  (s.slot i).state == .opened && (s.slot i).grant != 0

/-- The run of a line copy (R106). -/
def LineCopy.run (c : LineCopy) (address : Nat) : Run :=
  newRun (.jobLine address) c.slot c.tariff c.direct c.weight (some c.count) c.allOrNone c.autoClose
    c.endorsements

/-- The line copy's slot checked and its run appended, or the walker WAITING or FAULTED (R106). -/
def State.walkerAppend (s : State) : State :=
  match s.job.walker.copy with
  | none => s
  | some c =>
    if s.slotFit c.slot then
      if s.runs.queue.length < 8 then
        (s.appendRun (c.run s.job.walker.lineAddress)).modWalker fun w =>
          { w with state := .running, run := some s.newRunId }
      else s.modWalker fun w => { w with state := .waiting }
    else s.walkerFault .slotNotOpen

/-- The line at an address fetched with attributes, then its slot checked and its run appended (R105,
R106). -/
def State.walkerFetch (s : State) (address : Nat) (allOrNone autoClose : Bool) : State :=
  let s1 := s.modWalker fun w => { w with lineAddress := address }
  match parseLine s.job.memory address allOrNone autoClose with
  | none => s1.walkerFault .badLine
  | some c =>
    (s1.modWalker fun w =>
      { w with
        copy := some c, nextAddress := c.linkNext, latchedAllOrNone := c.linkAllOrNone,
        latchedAutoClose := c.linkAutoClose }).walkerAppend

/-- The next line of the chain fetched with the latched flags (R107, R109). -/
def State.walkerNext (s : State) : State :=
  s.walkerFetch s.job.walker.nextAddress s.job.walker.latchedAllOrNone s.job.walker.latchedAutoClose

/-- The link of a line whose run ended COMPLETE (R107). -/
def State.walkerFollow (s : State) (c : LineCopy) : State :=
  if c.linkEnd then
    (s.modWalker fun w =>
      { w with state := .done, stopReason := .chainEnd, stopAddress := w.lineAddress }).raise .jobStopped
  else if c.linkHold then
    (s.modWalker fun w => { w with state := .held, heldReason := .linkHold }).raise .jobStopped
  else s.walkerNext

/-- The walker HELD with NO_CREDIT, its remaining count measured from the line copy (R108). -/
def State.walkerHoldCredit (s : State) (c : LineCopy) (printed : Nat) : State :=
  (s.modWalker fun w =>
    { w with
      state := .held, heldReason := .noCredit, remaining := c.count - printed,
      copy := some { c with count := c.count - printed } }).raise .jobStopped

/-- The end of the walker run taken by the walker (R107, R108, R110). -/
def State.walkerRunEnded (s : State) (reason : EndReason) (printed : Nat) : State :=
  let s1 := s.modWalker fun w => { w with run := none }
  if s.job.walker.haltPending then
    s1.modWalker fun w => { w with state := .idle, haltPending := false }
  else
    match s.job.walker.copy with
    | none => s1
    | some c =>
      match reason with
      | .complete =>
        (s1.modWalker fun w => { w with linesDone := (w.linesDone + 1) % 65536 }).walkerFollow c
      | .noCredit => s1.walkerHoldCredit c printed
      | other => s1.walkerFault (.ended other)

/-- The walker told that a place of the queue is free: a WAITING walker tries its append again, before
any START RUN is taken (R79, R94, R106; assumption log 48). -/
def State.walkerPlaceFree (s : State) : State :=
  if s.job.walker.state = .waiting then s.walkerAppend else s

/-! ## The end of a run -/

/-- A finished-run record added at the tail, the oldest of 8 dropped first, and the ended count raised
(R95). -/
def RunUnit.addFinished (u : RunUnit) (f : Finished) : RunUnit :=
  { u with
    finished := (if 8 ≤ u.finished.length then u.finished.drop 1 else u.finished) ++ [f]
    endedCount := (u.endedCount + 1) % 65536 }

/-- The finished-run record of a run (R95). -/
def Run.record (r : Run) (reason : EndReason) : Finished :=
  ⟨r.id, r.source, r.slot, reason, r.latched, r.printed, r.refunded, r.spoiled⟩

/-- The walker told of the end of a run when it is its run (R94, step 5). -/
def State.tellWalker (s : State) (r : Run) (reason : EndReason) : State :=
  if s.job.walker.run = some r.id then s.walkerRunEnded reason r.printed else s

/-- Steps 1 to 6 of R94 for the run with an id: it leaves the queue, its finished-run record is added,
RUN_ENDED is raised, its slot is evaluated, the walker is told of the end and of the free place. Step
7, the start of the next head, is the caller's. No START RUN takes the freed place before the walker
(assumption log 48): a WAITING walker appends within this step, one of the two orders of R79 and R106,
and at the end of the walker's own run its fetch and append are within this step too, one of the two
orders of R107, so that the walker never becomes WAITING for a START RUN that took the place first. -/
def State.runEnd (s : State) (id : Nat) (reason : EndReason) : State :=
  match s.findRun id with
  | none => s
  | some r =>
    let s1 := s.modRuns fun u =>
      ({ u with queue := u.queue.filter fun q => q.id != id } : RunUnit).addFinished (r.record reason)
    let s2 := (s1.raise .runEnded).slotRunEnded r.slot id
    (s2.tellWalker r reason).walkerPlaceFree

/-! ## Authorising an imprint -/

/-- The imprint record's bytes (R85, R194). -/
def imprintRecord (serial : BitVec 32) (number day value usedAfter dept runId : Nat)
    (endorsements : List Nat) : List Byte :=
  beBytes 1 (22 + endorsements.length) ++ beBytes 4 serial.toNat ++ beBytes 4 number ++
  beBytes 2 day ++ beBytes 3 value ++ beBytes 5 usedAfter ++ beBytes 2 dept ++ beBytes 1 runId ++
  beBytes 1 endorsements.length ++ endorsements.flatMap fun e => beBytes 1 e

/-- The longest time the sending of an imprint record takes, in milliseconds (R194). -/
def sendingMs : Nat := 2

/-- The authorise posting with its companions, the in-flight imprint set up and its record begun (R84),
and what the neighbours do. -/
def State.authorisePost (s : State) (r : Run) : State :=
  let v := r.latched
  let s1 := (s.post (.authorise v)).modSlot r.slot fun sl =>
    { sl with printDelta := sl.printDelta + v, imprints := sl.imprints + 1 }
  let number := s1.acct.imprintNo
  let record := imprintRecord s.refill.serial number s.rates.day v (s.acct.used + v)
    (s.grant (s.slot r.slot).grant).dept r.id r.endorsements
  (s1.modRuns fun u =>
    { u with
      inFlight := some ⟨r.id, number, v, .sending⟩, sending := record,
      sendTimer := some sendingMs }).afterAvail

/-- The first check of R83 that fails, with the reason for which the run ends; none when all pass. A
run is never PRINTING in UNCONFIGURED (assumption log 29). -/
def State.authoriseFails (s : State) (r : Run) : Option EndReason :=
  match s.acct.mode with
  | .exhausted => some .exhausted
  | .contactLocked | .unconfigured => some .locked
  | .active | .contactDue =>
    if s.rates.day = 0 then some .noDate
    else if usedMax < s.acct.used + r.latched then some .exhausted
    else if s.acct.avail < r.latched then some .noCredit
    else if (s.slot r.slot).headroom < r.latched then some .grantLimit
    else none

/-- Whether the failing check is the one against the USED maximum (R83, check 3). -/
def State.overUsedMax (s : State) (r : Run) : Bool :=
  (s.acct.mode == .active || s.acct.mode == .contactDue) && s.rates.day != 0 &&
    decide (usedMax < s.acct.used + r.latched)

/-- The next imprint of the run with an id authorised, or the run ended by the first check that fails
(R83); the check against the USED maximum enters EXHAUSTED first (R18). -/
def State.authorise (s : State) (id : Nat) : State :=
  match s.findRun id with
  | none => s
  | some r =>
    match s.authoriseFails r with
    | none => s.authorisePost r
    | some reason => (if s.overUsedMax r then s.enterExhausted else s).runEnd id reason

/-! ## The start of the head run -/

/-- The head run when the conditions of R81 hold. -/
def State.startable (s : State) : Option Run :=
  match s.runs.queue with
  | [] => none
  | r :: _ =>
    if r.state = .queued ∧ s.runs.inFlight = none ∧
        (s.acct.mode = .active ∨ s.acct.mode = .contactDue ∨ s.acct.mode = .exhausted) then some r
    else none

/-- The start of a run (R82), its first authorisation included: no other event comes between them. R177
lets a day advance that locks arrive while the value is computed or the all-or-none check is made, and
has the first authorisation meet the lock; that order does not arise here, where 95_what_each_step_holds.md
has the whole start inside one step (the model's choice, assumption log 53). -/
def State.runStart (s : State) (r : Run) : State :=
  let s1 := s.slotRunStarted r
  match s1.valueOf r with
  | .error reason => s1.runEnd r.id reason
  | .ok v =>
    if s1.shortFor r v then (s1.modRun r.id fun q => { q with latched := v }).runEnd r.id .shortCredit
    else (s1.modRun r.id fun q => { q with latched := v, state := .printing }).authorise r.id

/-- Head runs started one after the other until one prints, none can start, or the head is one of
those being ended by the same request (R81, R94 step 7; assumption log 16, 35). -/
def State.startLoop (ending : List Nat) : Nat → State → State
  | 0, s => s
  | n + 1, s =>
    match s.startable with
    | none => s
    | some r => if r.id ∈ ending then s else State.startLoop ending n (s.runStart r)

/-- The head run considered for start (R81). Each turn ends one run of the queue, and a WAITING walker
adds at most one, so the bound is never the reason for stopping (assumption log 35). -/
def State.considerStart (s : State) : State := State.startLoop [] (s.runs.queue.length + 2) s

/-- What follows an evaluation that may have moved the mode from `old`: the neighbours' evaluations, and
the head run considered when the mode has left CONTACT_LOCKED (R173, R178). -/
def State.afterMode (s : State) (old : Mode) : State :=
  if s.acct.mode = old then s
  else if old = .contactLocked then s.afterAvail.considerStart
  else s.afterAvail

/-! ## End requests -/

/-- An end request for the run with an id (R92), without step 7 of R94. -/
def State.endRequest (s : State) (id : Nat) (reason : EndReason) : State :=
  match s.findRun id with
  | none => s
  | some r =>
    match r.state with
    | .queued | .jammed => s.runEnd id reason
    | .printing =>
      if s.runs.inFlight.isSome then
        s.modRun id fun q => { q with state := .stopping, pendingEnd := some reason }
      else s.runEnd id reason
    | .stopping => s

/-- The end requests of one CLOSE SLOT with abandon, each end with its whole sequence, in queue order; a
run still to be ended by it is not started (R49, R92, R94; assumption log 16). -/
def State.abandonRuns : List Nat → State → State
  | [], s => s
  | id :: rest, s =>
    let s1 := s.endRequest id .abandoned
    State.abandonRuns rest (State.startLoop rest (s1.runs.queue.length + 2) s1)

/-! ## Outcomes -/

/-- The in-flight imprint in the phase in which an outcome is taken (R86). -/
def State.enabledImprint (s : State) : Option InFlight :=
  match s.runs.inFlight with
  | none => none
  | some f => if f.phase = .enabled then some f else none

/-- The in-flight imprint cleared and the mechanism timer stopped (R86). -/
def State.clearInFlight (s : State) : State :=
  s.modRuns fun u => { u with inFlight := none, mechTimer := none }

/-- What a run does once an imprint of it has failed: a STOPPING run ends with its pending end, any other
becomes JAMMED (R88, R89). -/
def State.afterFailure (s : State) (id : Nat) : State :=
  match s.findRun id with
  | none => s
  | some r =>
    if r.state = .stopping then s.runEnd id (r.pendingEnd.getD .stopped)
    else (s.modRun id fun q => { q with state := .jammed }).raise .jammed

/-- What a run does once an imprint of it is done (R87). The next authorisation is within the outcome's step,
so no lock comes between them (R177; the model's choice, assumption log 53). -/
def State.afterDone (s : State) (id : Nat) : State :=
  match s.findRun id with
  | none => s
  | some r =>
    if r.state = .stopping then s.runEnd id (r.pendingEnd.getD .stopped)
    else
      match r.count with
      | none => s.authorise id
      | some c => if c ≤ r.printed then s.runEnd id .complete else s.authorise id

/-- An imprint reported printed (R87). -/
def State.imprintDone (s : State) (f : InFlight) : State :=
  let s1 := (s.post .imprintDone).clearInFlight
  let s2 := s1.modRun f.runId fun r => { r with printed := satAdd r.printed 1 }
  (s2.afterDone f.runId).considerStart

/-- The void numbers with one more: when 8 are held the oldest is dropped (R76). -/
def addVoid (voids : List Nat) (n : Nat) : List Nat :=
  (if 8 ≤ voids.length then voids.drop 1 else voids) ++ [n]

/-- The slot of the run with an id given back what a clean fault refunds (R45, R88). -/
def State.refundSlot (s : State) (id v : Nat) : State :=
  match s.findRun id with
  | none => s
  | some r => s.modSlot r.slot fun sl =>
      { sl with printDelta := sl.printDelta - v, imprints := sl.imprints - 1 }

/-- An imprint that failed with nothing printed (R88). -/
def State.imprintFailedClean (s : State) (f : InFlight) : State :=
  let s1 := ((s.post .failedClean).refundSlot f.runId s.acct.held).clearInFlight.afterAvail
  let s2 := s1.modRun f.runId fun r =>
    { r with refunded := satAdd r.refunded 1, voids := addVoid r.voids f.number }
  (s2.afterFailure f.runId).considerStart

/-- An imprint whose outcome is unknown (R89). -/
def State.imprintUncertain (s : State) (f : InFlight) : State :=
  let s1 := (s.post .uncertain).clearInFlight
  let s2 := s1.modRun f.runId fun r => { r with spoiled := satAdd r.spoiled 1 }
  (s2.afterFailure f.runId).considerStart

end Sys2Proof.Machine
end

