-- ==== Sys2Proof/Machine/StockOps.lean ====
section
/-! DEFINITION. The Stock Unit's shared operations: the change order and eviction (R130), the released-reel
list (R131), mounting (R134 to R136), the ask window (R137), the answers to peers (R138 to R140),
unmounting (R141), FEED_ENABLE (R142) and the counting of issues (R46, R143, R144). -/

namespace Sys2Proof.Machine

/-! ## The stock table -/

/-- The entry for a reel id (R129). -/
def State.reel (s : State) (id : Nat) : Option Reel := s.stock.table.find? fun r => r.id == id

/-- The entry whose feeder field names a feeder (R129, R141). -/
def State.feederEntry (s : State) (f : Feeder) : Option Reel :=
  s.stock.table.find? fun r => r.feeder == some f

/-- The reel MOUNTED in a feeder. -/
def State.mountedIn (s : State) (f : Feeder) : Option Reel :=
  s.stock.table.find? fun r => r.state == .mounted && r.feeder == some f

/-- A table with an entry at the newest place, in place of the one for its reel (R130). -/
def putNewest (t : List Reel) (r : Reel) : List Reel := (t.filter fun q => q.id != r.id) ++ [r]

/-- The eviction that makes room for a new entry: from a table of 12 the oldest RELEASED or EMPTY entry
is removed (R130). -/
def evict (t : List Reel) : List Reel :=
  if t.length < 12 then t else t.eraseP fun r => r.state != .mounted

/-- An EMPTY entry that names a feeder has that field set to none, a change that takes it to the newest
place (R130, R133). -/
def clearEmptyFeeder (t : List Reel) (f : Feeder) : List Reel :=
  match t.find? fun r => r.state == .empty && r.feeder == some f with
  | none => t
  | some r => putNewest t { r with feeder := none }

/-- The state with a changed entry at the newest place (R130). -/
def State.renewReel (s : State) (r : Reel) : State :=
  s.modStock fun u => { u with table := putNewest u.table r }

/-- The state with an entry changed in its place (R130: an issue that does not empty the reel). -/
def State.keepReel (s : State) (r : Reel) : State :=
  s.modStock fun u => { u with table := u.table.map fun q => if q.id = r.id then r else q }

/-- The state without the entry for a reel. -/
def State.dropReel (s : State) (id : Nat) : State :=
  s.modStock fun u => { u with table := u.table.filter fun q => q.id != id }

/-- The reel note of a kind for an entry's figures. -/
def Reel.note (r : Reel) (kind : NoteKind) : BusFrame :=
  .reelNote kind (BitVec.ofNat 32 r.id) (BitVec.ofNat 16 r.remaining) (BitVec.ofNat 16 r.denomination)

/-! ## The released-reel list -/

/-- The note of the released-reel list for a reel (R131). -/
def State.releasedNote (s : State) (id : Nat) : Option ReleasedNote :=
  s.stock.released.find? fun n => n.reelId == id

/-- The state without a list note for a reel (R131). -/
def State.dropNote (s : State) (id : Nat) : State :=
  s.modStock fun u => { u with released := u.released.filter fun n => n.reelId != id }

/-- A note entered at the newest end: the one for the same reel goes, else the oldest of 16 (R131). -/
def addNote (l : List ReleasedNote) (n : ReleasedNote) : List ReleasedNote :=
  if l.any fun m => m.reelId == n.reelId then (l.filter fun m => m.reelId != n.reelId) ++ [n]
  else (if 16 ≤ l.length then l.drop 1 else l) ++ [n]

/-! ## Emptying -/

/-- An entry that has come to 0 stamps: EMPTY with its feeder kept and, when it was ASKING, its window
stopped and its check UNVERIFIED (R143). -/
def Reel.emptied (r : Reel) : Reel :=
  { r with
    state := .empty, remaining := 0, askWindow := none
    check := if r.check = .asking then .unverified else r.check }

/-- The reel note and the alarm that follow an emptying (R143). -/
def State.tellEmpty (s : State) (r : Reel) : State := (s.handOver (r.note .empty)).raise .reelEmpty

/-! ## Mounting -/

/-- A reel remounted from its own RELEASED entry, the host's claimed count and denomination given
(R134). -/
def State.remount (s : State) (f : Feeder) (r : Reel) (denomination claimed : Nat) : State :=
  let m : Reel :=
    { r with
      state := .mounted, feeder := some f, check := .verified, countAtLoad := r.remaining,
      askWindow := none }
  let s1 := (s.modStock fun u => { u with table := clearEmptyFeeder u.table f }).renewReel m
  ((s1.dropNote r.id).raiseIf (claimed != r.remaining || denomination != r.denomination) .adjusted).handOver
    (m.note .mounted)

/-- A new entry made at the newest place: eviction first, then the EMPTY entry's feeder, then the entry
(R130, R133; assumption log 21). -/
def State.newReel (s : State) (f : Feeder) (r : Reel) : State :=
  s.modStock fun u => { u with table := clearEmptyFeeder (evict u.table) f ++ [r] }

/-- A reel mounted from a peer's note (R135). -/
def State.mountFromNote (s : State) (f : Feeder) (n : ReleasedNote) (denomination claimed : Nat) : State :=
  let m : Reel :=
    ⟨n.reelId, n.denomination, n.remaining, n.remaining, 0, .mounted, some f, .verified, none⟩
  (((s.newReel f m).dropNote n.reelId).raiseIf
    (claimed != n.remaining || denomination != n.denomination) .adjusted).handOver (m.note .mounted)

/-- A reel neither held nor noted here, mounted ASKING (R136). -/
def State.mountAsking (s : State) (f : Feeder) (id denomination claimed : Nat) : State :=
  (s.newReel f ⟨id, denomination, claimed, claimed, 0, .mounted, some f, .asking, some 1000⟩).handOver
    (.reelAsk (BitVec.ofNat 32 id))

/-! ## Notes heard -/

/-- A MOUNTED entry outside the ask window becomes CONFLICT; one that is CONFLICT already stays where it
stands, and the alarm is raised again (R139, R140; assumption log 20). -/
def State.conflict (s : State) (r : Reel) : State :=
  (if r.check = .conflict then s else s.renewReel { r with check := .conflict }).raise .reelConflict

/-- An ASKING entry becomes CONFLICT on a MOUNTED or EMPTY note: the window stops, and the reel is
announced (R137). -/
def State.askConflict (s : State) (r : Reel) : State :=
  let m : Reel := { r with check := .conflict, askWindow := none }
  ((s.renewReel m).handOver (m.note .mounted)).raise .reelConflict

/-- An ASKING entry adopts a RELEASED note (R137); when nothing is left it empties as R143 gives. -/
def State.adopt (s : State) (r : Reel) (remaining denomination : Nat) : State :=
  let m : Reel :=
    { r with
      check := .verified, askWindow := none, countAtLoad := remaining, denomination := denomination,
      remaining := remaining - r.issued }
  let changed := remaining != r.countAtLoad || denomination != r.denomination
  if m.remaining = 0 then ((s.renewReel m.emptied).raiseIf changed .adjusted).tellEmpty m.emptied
  else ((s.renewReel m).raiseIf changed .adjusted).handOver (m.note .mounted)

/-- The window of an ASKING entry runs out (R137). -/
def State.askExpired (s : State) (r : Reel) : State :=
  let m : Reel := { r with check := .unverified, askWindow := none }
  (s.renewReel m).handOver (m.note .mounted)

/-- A REEL-NOTE MOUNTED or EMPTY taken (R131, R137, R139, R140): the two act alike. -/
def State.claimHeard (s : State) (id : Nat) : State :=
  let s1 := s.dropNote id
  match s1.reel id with
  | none => s1
  | some r =>
    match r.state with
    | .mounted => if r.check = .asking then s1.askConflict r else s1.conflict r
    | .released => s1.dropReel id
    | .empty => s1

/-- A REEL-NOTE RELEASED taken (R131, R137, R140). -/
def State.releaseHeard (s : State) (sender id remaining denomination : Nat) : State :=
  let full := decide (remaining ≠ 0 ∧ denomination ≠ 0)
  let listed :=
    if full then
      s.modStock fun u => { u with released := addNote u.released ⟨id, remaining, denomination, sender⟩ }
    else s
  match s.reel id with
  | none => listed
  | some r =>
    match r.state with
    | .mounted =>
      if r.check = .asking then (if full then s.adopt r remaining denomination else s)
      else if r.check = .verified ∧ r.countAtLoad = remaining ∧ r.denomination = denomination then s
      else s.conflict r
    | .released | .empty => listed

/-- The answer to a REEL-ASK from the released-reel list; none without a note (R138). -/
def State.answerFromList (s : State) (id : Nat) : State :=
  match s.releasedNote id with
  | none => s
  | some n =>
    s.handOver (.reelNote .released (BitVec.ofNat 32 id) (BitVec.ofNat 16 n.remaining)
      (BitVec.ofNat 16 n.denomination))

/-- The answer to a REEL-ASK: the rows of R138 in their order, so that a list note answers beside an
EMPTY entry (R140 lets both stand; assumption log 42). -/
def State.answerAsk (s : State) (id : Nat) : State :=
  match s.reel id with
  | none => s.answerFromList id
  | some r =>
    match r.state with
    | .mounted => s.handOver (r.note .mounted)
    | .released => s.handOver (r.note .released)
    | .empty => s.answerFromList id

/-! ## Unmounting -/

/-- The entry in a feeder taken out (R141). -/
def State.unmount (s : State) (r : Reel) : State :=
  match r.state with
  | .empty | .released => s.renewReel { r with feeder := none }
  | .mounted =>
    if r.check = .conflict then s.dropReel r.id
    else
      let m : Reel :=
        { r with
          state := .released, feeder := none, askWindow := none
          check := if r.check = .asking then .unverified else r.check }
      (s.renewReel m).handOver (m.note .released)

/-! ## Feeding and issuing -/

/-- The level of a feeder's FEED_ENABLE line (R142); low while the station is unconfigured. -/
def State.feedLevel (s : State) (f : Feeder) : Bool :=
  s.configured &&
  match s.boundSlot f, s.mountedIn f with
  | some i, some r =>
    (s.slot i).state == .opened && (s.slot i).grant != 0 && decide (0 < r.remaining) &&
      (r.check == .verified || r.check == .unverified) &&
      decide (r.denomination ≤ (s.slot i).headroom)
  | _, _ => false

/-- The FEED_ENABLE line as it is driven now. -/
def Outputs.feed (o : Outputs) : Feeder → Bool
  | .a => o.feedEnableA
  | .b => o.feedEnableB

/-- The slot a stamp from a feeder is charged to: the one it is bound to, OPEN or CLOSING on a grant from
1 to 63 (R46, R143). -/
def State.stampSlot (s : State) (f : Feeder) : Option Nat :=
  match s.boundSlot f with
  | none => none
  | some i => if (s.slot i).state ≠ .idle ∧ (s.slot i).grant ≠ 0 then some i else none

/-- A slot charged with one stamp (R46). -/
def Slot.stamp (sl : Slot) (denomination : Nat) (late : Bool) : Slot :=
  { sl with
    stockDelta := satAdd sl.stockDelta denomination
    stamps := satAdd sl.stamps 1
    lateIssues := if late then satAdd sl.lateIssues 1 else sl.lateIssues }

/-- The stamps issued value raised by a denomination (R132); past its range a free value, assumption
log 7. -/
def stampsValue (total denomination : Nat) : Nat :=
  if total + denomination ≤ totalMax then total + denomination
  else Config.stampsValuePastRange total denomination % (totalMax + 1)

/-- The charge of a stamp: to the slot, with LATE_ISSUE when the line is low, or to the unassigned count
(R46, R143). -/
def State.chargeStamp (s : State) (f : Feeder) (denomination : Nat) : State :=
  match s.stampSlot f with
  | some i =>
    (s.modSlot i fun sl => sl.stamp denomination !(s.outs.feed f)).raiseIf (!(s.outs.feed f)) .lateIssue
  | none => s.modStock fun u => { u with unassigned := satAdd u.unassigned 1 }

/-- A stamp counted against the reel of a feeder (R143). -/
def State.countStamp (s : State) (f : Feeder) (r : Reel) : State :=
  let m : Reel := { r with remaining := r.remaining - 1, issued := satAdd r.issued 1 }
  let s1 := (s.chargeStamp f r.denomination).modStock fun u =>
    { u with issuedValue := stampsValue u.issuedValue r.denomination }
  if m.remaining = 0 then (s1.renewReel m.emptied).tellEmpty m.emptied else s1.keepReel m

/-- A pulse with no reel to count against (R144). -/
def State.unaccountedIssue (s : State) : State :=
  (s.modStock fun u => { u with unaccounted := satAdd u.unaccounted 1 }).raise .unaccountedIssue

/-- An ISSUE pulse of a feeder (R143, R144). -/
def State.issue (s : State) (f : Feeder) : State :=
  match s.mountedIn f with
  | some r => if r.remaining = 0 then s.unaccountedIssue else s.countStamp f r
  | none => s.unaccountedIssue

end Sys2Proof.Machine
end

