-- ==== Sys2Proof/Machine/Layout.lean ====
section
/-! DEFINITION. The layouts of response payloads: the named values of R195, and field after field what
each owning rule carries (R193, R195; the places R195 leaves open are in assumption logs 8 and 9). -/

namespace Sys2Proof.Machine

/-! ## Named values (R195) and status codes -/

/-- The status codes (section "Status codes"). -/
def Status.code : Status → Nat
  | .ok => 0x00
  | .badCommand => 0x01
  | .badLength => 0x02
  | .badArgument => 0x03
  | .notConfigured => 0x04
  | .alreadyConfigured => 0x05
  | .badConfig => 0x06
  | .prot => 0x07
  | .noService => 0x08
  | .busy => 0x09
  | .badDay => 0x0A
  | .slotOpen => 0x10
  | .slotIdle => 0x11
  | .slotBusy => 0x12
  | .slotClosing => 0x13
  | .slotsOpen => 0x14
  | .grantAbsent => 0x18
  | .grantInUse => 0x19
  | .level => 0x1A
  | .nullGrant => 0x1B
  | .queueFull => 0x20
  | .noEntry => 0x21
  | .feederOccupied => 0x28
  | .feederEmpty => 0x29
  | .reelKnown => 0x2A

def Mode.code : Mode → Nat
  | .unconfigured => 0
  | .active => 1
  | .contactDue => 2
  | .contactLocked => 3
  | .exhausted => 4

def BusState.code : BusState → Nat
  | .quiet => 0
  | .joining => 1
  | .active => 2
  | .off => 3
  | .silenced => 4

def Liveness.code : Liveness → Nat
  | .live => 0
  | .silent => 1

def SlotState.code : SlotState → Nat
  | .idle => 0
  | .opened => 1
  | .closing => 2

def CloseReason.code : CloseReason → Nat
  | .none => 0
  | .close => 1
  | .abandon => 2
  | .auto => 3
  | .restart => 4

def Kind.code : Kind → Nat
  | .capped => 0
  | .prepaid => 1

def feederCode : Option Feeder → Nat
  | some .a => 0
  | some .b => 1
  | none => 255

/-- Feeders bound: 0 none, 1 A, 2 B, 3 both. -/
def Slot.boundCode (sl : Slot) : Nat := sl.boundA.toNat + 2 * sl.boundB.toNat

def RunState.code : RunState → Nat
  | .queued => 0
  | .printing => 1
  | .jammed => 2
  | .stopping => 3

def Phase.code : Phase → Nat
  | .sending => 0
  | .enabled => 1

def EndReason.code : EndReason → Nat
  | .complete => 1
  | .stopped => 2
  | .abandoned => 3
  | .halted => 4
  | .locked => 5
  | .exhausted => 6
  | .noDate => 7
  | .noCredit => 8
  | .grantLimit => 9
  | .rateMissing => 10
  | .overweight => 11
  | .tooLarge => 12
  | .shortCredit => 13
  | .restart => 14

def WalkerState.code : WalkerState → Nat
  | .idle => 0
  | .running => 1
  | .waiting => 2
  | .held => 3
  | .done => 4
  | .faulted => 5

def HeldReason.code : HeldReason → Nat
  | .none => 0
  | .linkHold => 1
  | .noCredit => 2

def StopReason.code : StopReason → Nat
  | .none => 0
  | .ended r => r.code
  | .badLine => 16
  | .slotNotOpen => 17
  | .chainEnd => 18

def ReelState.code : ReelState → Nat
  | .mounted => 0
  | .released => 1
  | .empty => 2

def Check.code : Check → Nat
  | .verified => 0
  | .asking => 1
  | .unverified => 2
  | .conflict => 3

/-! ## Field forms -/

/-- A field of one byte. -/
def byte (n : Nat) : List Byte := beBytes 1 n

/-- A yes or no field. -/
def yesNo (b : Bool) : List Byte := byte b.toNat

/-- The byte in the place of a yes or no field or a named value of an absent record; a free value,
assumption log 8. -/
def absentByte (place : Nat) : List Byte := [Config.absentFieldByte place]

/-- A numeric field with 0 outside its range: 0 when it reads none. -/
def orZero (len : Nat) (v : Option Nat) : List Byte := beBytes len (v.getD 0)

/-- A numeric field with 0 in its range: every bit set when it reads none. -/
def orOnes (len : Nat) (v : Option Nat) : List Byte := beBytes len (v.getD (256 ^ len - 1))

/-- A list: the number of its items, then the items. -/
def listOf {α : Type} (f : α → List Byte) (l : List α) : List Byte := byte l.length ++ l.flatMap f

/-- A source: its code and the line's address, 0 when it is not a job line. -/
def Source.bytes : Source → List Byte
  | .command => byte 0 ++ beBytes 2 0
  | .jobLine a => byte 1 ++ beBytes 2 a
  | .unknown => byte 2 ++ beBytes 2 0

/-! ## Port -/

/-- READ REGISTERS (R20). -/
def State.registersBytes (s : State) : List Byte :=
  beBytes 4 s.acct.avail ++ beBytes 3 s.acct.held ++ beBytes 4 s.acct.escrow ++
  beBytes 5 s.acct.used ++ beBytes 5 s.acct.spoiled ++ beBytes 6 s.acct.control ++
  beBytes 4 s.acct.incoming ++ beBytes 4 s.ceiling ++ beBytes 4 s.room ++
  beBytes 4 s.acct.imprintNo ++ byte s.acct.mode.code ++ yesNo s.acct.exhaustedMark ++
  beBytes 3 s.acct.restartSpoil

/-- The first CONTACT_DUE day: C + K - 5, or none when K is 5 or less (R179). -/
def State.firstDueDay (s : State) : Option Nat :=
  match s.port.settings with
  | none => none
  | some c => if 5 < c.contactDays then some (s.refill.lastContact + c.contactDays - 5) else none

/-- The first locked day: C + K + 1 (R179). -/
def State.firstLockedDay (s : State) : Option Nat :=
  s.port.settings.map fun c => s.refill.lastContact + c.contactDays + 1

/-- STATUS (R187). -/
def State.statusBytes (s : State) : List Byte :=
  yesNo s.configured ++ byte s.acct.mode.code ++ yesNo s.acct.exhaustedMark ++
  yesNo s.port.protection ++ byte s.bus.state.code ++
  (s.slots.toList.flatMap fun sl => byte sl.state.code) ++
  byte s.runs.queue.length ++ yesNo s.runs.inFlight.isSome ++ byte s.job.walker.state.code ++
  beBytes 2 s.rates.day ++ beBytes 2 s.refill.lastNumber ++ beBytes 2 s.refill.lastContact ++
  orZero 1 (s.port.settings.map (·.contactDays)) ++ orZero 3 s.firstDueDay ++
  orZero 3 s.firstLockedDay ++ beBytes 4 s.port.alarms.toNat ++ beBytes 4 s.port.mask.toNat

/-- Q_SENSOR as in force: 4 until CONFIGURE (R186). -/
def State.qSensor (s : State) : Nat := (s.port.settings.map (·.qSensor)).getD 4

/-- Q_MECH as in force: 4 until CONFIGURE (R186). -/
def State.qMech (s : State) : Nat := (s.port.settings.map (·.qMech)).getD 4

/-- A level, for which R195 gives no code: 1 high, 0 low (assumption log 44). -/
def levelByte (high : Bool) : List Byte := byte high.toNat

/-- READ LINES (R187); a line's level as assumption log 44 has it. -/
def State.linesBytes (s : State) : List Byte :=
  (allLines.flatMap fun l => levelByte (s.lines.get l).level ++ yesNo (s.lines.get l).settled) ++
  byte s.qSensor ++ byte s.qMech ++ levelByte s.outs.printEnable ++ levelByte s.outs.feedEnableA ++
  levelByte s.outs.feedEnableB ++ levelByte s.outs.attn

/-! ## Rates and grants -/

/-- The 17 bytes of a rate entry; one not present reads with every field at 0 (R64, R193). -/
def rateBytes : Option RateEntry → List Byte
  | none => List.replicate 17 0
  | some e =>
    byte 1 ++ beBytes 3 e.base ++ beBytes 2 e.baseWeight ++ beBytes 2 e.stepWeight ++
    beBytes 3 e.stepValue ++ beBytes 2 e.maxWeight ++ beBytes 2 e.threshold ++ beBytes 2 e.discount

/-- The day and the effective day, 0 for none. -/
def State.dayBytes (s : State) : List Byte :=
  beBytes 2 s.rates.day ++ orZero 2 s.rates.effectiveDay

/-- READ RATES (R69, R193). -/
def State.ratesBytes (s : State) (selector code : Nat) : List Byte :=
  byte selector ++ byte code ++
  rateBytes (if selector = 0 then s.activeRate code else s.pendingRate code) ++ s.dayBytes

/-- The flags byte of a grant record (R193). -/
def Grant.flagBits (g : Grant) : Nat :=
  g.present.toNat + 2 * g.kind.code + 4 * g.coarse.toNat + 8 * g.accessed.toNat

/-- READ GRANT (R36, R193). -/
def State.grantBytes (s : State) (i : Nat) : List Byte :=
  let g := s.grant i
  byte i ++ byte g.flagBits ++ beBytes 2 g.dept ++ beBytes 3 g.amount ++ byte g.level ++
  beBytes 4 g.spent ++ beBytes 4 g.spentLast ++ beBytes 4 g.imprints ++ beBytes 4 g.stamps ++
  beBytes 4 g.effective ++ beBytes 2 s.grants.period ++ orOnes 1 (s.slotHolding i)

/-! ## Slots -/

/-- CLOSE SLOT (R48): the state and, when it is IDLE, the figures the close returned. -/
def Slot.closeBytes (sl : Slot) : List Byte :=
  let shown (v : Nat) : Option Nat := if sl.state = .idle then some v else none
  byte sl.state.code ++ orOnes 4 (shown sl.printDelta) ++ orOnes 4 (shown sl.stockDelta) ++
  orOnes 4 (shown sl.imprints) ++ orOnes 4 (shown sl.stamps) ++ orOnes 4 (shown sl.lateIssues) ++
  (if sl.state = .idle then yesNo sl.clampActed else absentByte 0)

/-- READ SLOT (R58). -/
def State.slotBytes (s : State) (i : Nat) : List Byte :=
  let sl := s.slot i
  byte sl.state.code ++ byte sl.grant ++ byte sl.level ++ byte sl.kind.code ++
  beBytes 4 sl.effective ++ beBytes 4 sl.spentAtOpen ++ beBytes 4 sl.printDelta ++
  beBytes 4 sl.stockDelta ++ beBytes 4 sl.imprints ++ beBytes 4 sl.stamps ++
  beBytes 4 sl.lateIssues ++ byte sl.boundCode ++ orZero 1 sl.run ++ byte sl.closeReason.code ++
  yesNo sl.clampActed ++ beBytes 4 sl.headroom ++ byte (s.runsOfSlot i)

/-! ## Runs -/

/-- A run record (R76). -/
def Run.bytes (r : Run) : List Byte :=
  byte r.id ++ r.source.bytes ++ byte r.slot ++ byte r.tariff ++ orZero 3 r.direct ++
  beBytes 2 r.weight ++ orZero 2 r.count ++ yesNo r.allOrNone ++ yesNo r.autoClose ++
  listOf byte r.endorsements ++ beBytes 3 r.latched ++ beBytes 4 r.printed ++
  beBytes 4 r.refunded ++ beBytes 4 r.spoiled ++ listOf (beBytes 4) r.voids ++ byte r.state.code ++
  byte ((r.pendingEnd.map (·.code)).getD 0)

/-- READ QUEUE (R96). -/
def State.queueBytes (s : State) : List Byte :=
  let f := s.runs.inFlight
  listOf Run.bytes s.runs.queue ++ orZero 1 (f.map (·.runId)) ++ orOnes 4 (f.map (·.number)) ++
  orZero 3 (f.map (·.value)) ++
  match f with
  | some x => byte x.phase.code
  | none => absentByte 1

/-- A finished-run record (R95). -/
def Finished.bytes (f : Finished) : List Byte :=
  byte f.runId ++ f.source.bytes ++ byte f.slot ++ byte f.reason.code ++ beBytes 3 f.value ++
  beBytes 4 f.printed ++ beBytes 4 f.refunded ++ beBytes 4 f.spoiled

/-- READ FINISHED (R95). -/
def State.finishedBytes (s : State) : List Byte :=
  listOf Finished.bytes s.runs.finished ++ beBytes 2 s.runs.endedCount

/-! ## Jobs -/

/-- The link word of a line copy (R101, R193). -/
def LineCopy.linkWord (c : LineCopy) : Nat :=
  c.linkAutoClose.toNat * 32768 + c.linkAllOrNone.toNat * 16384 + c.linkHold.toNat * 8192 +
    c.linkEnd.toNat * 4096 + c.linkNext

/-- The line copy of READ WALKER, or its place when there is none: each numeric field as R195 gives one
that reads none, and by the model's choice the link word with every bit set, its four flags too, and the
list of endorsements with no item (assumption log 51); the two attributes are assumption log 8. -/
def copyBytes : Option LineCopy → List Byte
  | some c =>
    byte c.slot ++ byte c.tariff ++ beBytes 2 c.weight ++ beBytes 2 c.count ++ orZero 3 c.direct ++
    listOf byte c.endorsements ++ beBytes 2 c.linkWord ++ yesNo c.allOrNone ++ yesNo c.autoClose
  | none =>
    orOnes 1 none ++ orOnes 1 none ++ orOnes 2 none ++ orZero 2 none ++ orZero 3 none ++
    listOf byte [] ++ orOnes 2 none ++ absentByte 2 ++ absentByte 3

/-- READ WALKER (R111, R102). -/
def Walker.bytes (w : Walker) : List Byte :=
  byte w.state.code ++ beBytes 2 w.lineAddress ++ copyBytes w.copy ++ yesNo w.latchedAllOrNone ++
  yesNo w.latchedAutoClose ++ beBytes 2 w.nextAddress ++ beBytes 2 w.remaining ++
  byte w.heldReason.code ++ byte w.stopReason.code ++ beBytes 2 w.stopAddress ++ orZero 1 w.run ++
  yesNo w.haltPending ++ beBytes 2 w.linesDone

/-- START JOB (R104): the state after the fetch, the run id when a run was appended, and the stop
reason and address when the fetch faulted. -/
def Walker.startBytes (w : Walker) : List Byte :=
  byte w.state.code ++ orZero 1 w.run ++
  if w.state = .faulted then byte w.stopReason.code ++ beBytes 2 w.stopAddress
  else byte 0 ++ orOnes 2 none

/-- RESUME JOB (R109): the state, and the run id when a run was appended. -/
def Walker.resumeBytes (w : Walker) (appended : Option Nat) : List Byte :=
  byte w.state.code ++ orZero 1 appended

/-! ## Stock -/

/-- A stock table entry (R129). -/
def Reel.bytes (r : Reel) : List Byte :=
  beBytes 4 r.id ++ beBytes 2 r.denomination ++ beBytes 2 r.countAtLoad ++ beBytes 2 r.remaining ++
  beBytes 4 r.issued ++ byte r.state.code ++ byte (feederCode r.feeder) ++ byte r.check.code

/-- A released-reel note (R131). -/
def ReleasedNote.bytes (n : ReleasedNote) : List Byte :=
  beBytes 4 n.reelId ++ beBytes 2 n.remaining ++ beBytes 2 n.denomination ++ byte n.sender

/-- The on-hand value: denomination times remaining over MOUNTED and RELEASED entries (R146). -/
def StockUnit.onHand (u : StockUnit) : Nat :=
  (u.table.map fun r => if r.state = .empty then 0 else r.denomination * r.remaining).sum

/-- READ STOCK (R146); the FEED_ENABLE levels as assumption log 44 has them. That the stock table, as a
list, is preceded by the number of its entries is the model's choice (assumption log 52). -/
def State.stockBytes (s : State) : List Byte :=
  listOf Reel.bytes s.stock.table ++ listOf ReleasedNote.bytes s.stock.released ++
  beBytes 6 s.stock.issuedValue ++ beBytes 4 s.stock.unassigned ++ beBytes 4 s.stock.unaccounted ++
  beBytes 5 s.stock.onHand ++ levelByte s.outs.feedEnableA ++ levelByte s.outs.feedEnableB

/-- MOUNT REEL (R133): the entry after the mount, and whether ADJUSTED was raised. -/
def Reel.mountBytes (r : Reel) (adjusted : Bool) : List Byte :=
  byte r.state.code ++ byte r.check.code ++ beBytes 2 r.remaining ++ beBytes 2 r.denomination ++
  beBytes 2 r.countAtLoad ++ yesNo adjusted

/-! ## Bus -/

/-- READ BUS (R127). -/
def State.busBytes (s : State) : List Byte :=
  byte s.bus.state.code ++ orZero 1 s.station ++ orZero 1 (s.port.settings.map (·.busRate)) ++
  orZero 1 (s.port.settings.map (·.interval)) ++ byte s.bus.tx.length ++
  yesNo (s.bus.tx.any (·.loaded)) ++ beBytes 2 s.bus.ignored ++ beBytes 3 s.bus.announcedSurplus ++
  byte s.bus.announcedFlags.toNat

/-- A peer entry (R124). -/
def Peer.bytes (p : Peer) : List Byte :=
  byte p.station ++ beBytes 3 p.surplus ++ beBytes 2 p.day ++ byte p.flags.toNat ++
  beBytes 4 p.age ++ byte p.liveness.code

/-- READ PEERS (R127): the number of entries is the count byte of the list (assumption log 46). -/
def State.peersBytes (s : State) : List Byte := listOf Peer.bytes s.bus.peers

/-! ## Sharing -/

/-- The time left of the open want's window or settle timer (R167). -/
def SharingUnit.wantTime (u : SharingUnit) : Option Nat :=
  match u.want with
  | none => none
  | some w => if w.taken.isSome then u.settleTimer else u.wantWindow

/-- The open want of READ TRANSFERS (R148, R167). -/
def SharingUnit.wantBytes (u : SharingUnit) : List Byte :=
  let t := u.want.bind (·.taken)
  orZero 2 (u.want.map (·.no)) ++ orZero 3 (u.want.map (·.asked)) ++
  byte (match u.want with | none => 0 | some w => if w.taken.isSome then 2 else 1) ++
  (match u.want with | none => absentByte 4 | some w => yesNo w.forRequest) ++
  orZero 1 (t.map (·.giver)) ++ orZero 2 (t.map (·.pledgeNo)) ++ orZero 3 (t.map (·.amount)) ++
  orOnes 1 (t.map (·.attempts)) ++ orOnes 2 u.wantTime

/-- A pledge-table entry (R149, R167). -/
def PledgeEntry.bytes (e : PledgeEntry) : List Byte :=
  byte e.requester ++ beBytes 2 e.wantNo ++ beBytes 3 e.asked ++
  orZero 2 (e.offer.map (·.pledgeNo)) ++ orZero 3 (e.offer.map (·.amount)) ++
  byte e.offer.isSome.toNat ++ beBytes 2 e.age

/-- An entry of the out record or of the unresolved list (R150, R151). -/
def Transfer.bytes (t : Transfer) : List Byte :=
  byte t.station ++ beBytes 2 t.wantNo ++ beBytes 2 t.pledgeNo ++ beBytes 3 t.amount

/-- READ TRANSFERS (R167); the pledge table in the order in which its entries were made (assumption log
45), preceded like a list by their number, which is the model's choice (assumption log 52). -/
def State.transfersBytes (s : State) : List Byte :=
  let u := s.share
  u.wantBytes ++ listOf PledgeEntry.bytes u.pledges ++ listOf Transfer.bytes u.outRecord ++
  listOf Transfer.bytes u.unresolved ++ yesNo u.request.isSome ++ orZero 3 u.request ++
  yesNo u.retry.isSome ++ beBytes 2 u.lastWant ++ beBytes 2 u.lastPledge ++ beBytes 6 u.writtenOff ++
  beBytes 4 ((s.port.settings.map (·.reserve)).getD 0) ++ beBytes 4 s.lowWater ++
  beBytes 4 s.target ++ beBytes 3 ((s.port.settings.map (·.maxPledge)).getD 0)

/-! ## Refill -/

/-- The outcomes of a refill record (R170). -/
inductive RefillOutcome
  | applied | notConfigured | wrongStation | badCheck | alreadyApplied | gap | exhausted | overCeiling
deriving DecidableEq, Repr

def RefillOutcome.code : RefillOutcome → Nat
  | .applied => 0
  | .notConfigured => 1
  | .wrongStation => 2
  | .badCheck => 3
  | .alreadyApplied => 4
  | .gap => 5
  | .exhausted => 6
  | .overCeiling => 7

/-- The receipt (R174, R193). -/
def State.receiptBytes (s : State) (number : Nat) (o : RefillOutcome) : List Byte :=
  beBytes 4 s.refill.serial.toNat ++ beBytes 2 number ++ byte o.code ++ beBytes 4 s.acct.avail ++
  beBytes 5 s.acct.used ++ beBytes 6 s.acct.control ++ beBytes 5 s.acct.spoiled ++
  beBytes 2 s.rates.day

end Sys2Proof.Machine
end

