-- ==== Sys2Proof/Machine/Port.lean ====
section
/-! DEFINITION. The Command Port's shared operations: the output pins, the checks of R181, the response
buffer (R182) and the reads in parts (R183). Every meaning ends in `done`. -/

namespace Sys2Proof.Machine

/-! ## The end of a step -/

/-- The level of PRINT_ENABLE: high while the in-flight imprint is ENABLED (R85, R86). -/
def State.printLevel (s : State) : Bool := s.runs.inFlight.any fun f => f.phase == .enabled

/-- CAN_TX: the loaded frame while the station sends, else the recessive level (R113, R115, R120;
assumption log 32). -/
def State.canLevel (s : State) : CanTx :=
  match s.station, s.bus.tx.find? (·.loaded) with
  | some n, some e => if s.busSends then .sending (e.frame.identifier n) e.frame.data else .recessive
  | _, _ => .recessive

/-- The bits on the imprint link, first to last: the record being sent, most significant bit of each byte
first (R194). -/
def State.linkBits (s : State) : List Bool := s.runs.sending.flatMap byteBits

/-- The levels IMP_DATA goes through: each bit is set while IMP_STROBE is low and held through the rise
that takes it, and low follows (R194). -/
def impDataLevels (bits : List Bool) : List Bool := (bits.flatMap fun b => [b, b]) ++ [false]

/-- The levels IMP_STROBE goes through beside those of IMP_DATA: one rise for each bit, low between bits
and after the last (R194). -/
def impStrobeLevels (bits : List Bool) : List Bool := (bits.flatMap fun _ => [false, true]) ++ [false]

/-- The output pins as the state drives them (R85, R115, R142, R191, R194). -/
def State.driveOutputs (s : State) : State :=
  { s with
    outs := ⟨s.printLevel, s.feedLevel .a, s.feedLevel .b, s.attnLevel, s.canLevel,
      impDataLevels s.linkBits, impStrobeLevels s.linkBits⟩ }

/-- The end of a step: the outputs follow the state (assumption log 31). -/
def done (s : State) : Host.Outcome State Fault Refusal := .next s.driveOutputs

/-! ## Transactions -/

/-- What the transaction of a command frame shifts out: the response buffer as it stood (R180). -/
def State.shiftOut (s : State) : State :=
  s.modPort fun p => { p with spiOut := .response p.response }

/-- A response put into the response buffer (R182). -/
def State.answer (s : State) (r : Response) : State := s.modPort fun p => { p with response := r }

/-- A refusal: a status without payload (assumption log 10). -/
def refusal (status : Status) : Response := ⟨status, []⟩

/-- The response OK without payload. -/
def okResponse : Response := ⟨.ok, []⟩

/-- Checks 1 and 3 to 5 of R181 for a command of the table; none when all pass. -/
def State.portCheck (s : State) (row : CommandRow) (payload : List Byte) : Option Status :=
  if payload.length < row.minLen ∨ row.maxLen < payload.length then some .badLength
  else if !s.configured && !row.before then some .notConfigured
  else if row.prot && s.port.protection then some .prot
  else none

/-- A snapshot dropped by a command that is carried out: one answered OK (R183; assumption log 12). -/
def State.endSnapshot (s : State) (r : Response) : State :=
  if r.status = .ok then s.modPort fun p => { p with snapshot := none } else s

/-- One command frame: shifted in and out, checked, carried out by its block's `body`, answered (R180
to R182). -/
def State.runCommand (s : State) (row : CommandRow) (payload : List Byte)
    (body : State → State × Response) : Host.Outcome State Fault Refusal :=
  match s.portCheck row payload with
  | some status => done (s.shiftOut.answer (refusal status))
  | none =>
    let r := body s.shiftOut
    done ((r.1.endSnapshot r.2).answer r.2)

/-! ## Reads in parts (R183) -/

/-- The parts of an answer, one at least. -/
def partsOf (answer : List Byte) : List (List Byte) :=
  stretches (max 1 ((answer.length + 247) / 248)) answer

/-- The response of part k: the part number, the number of parts, the stretch. -/
def partResponse (k : Nat) (parts : List (List Byte)) (stretch : List Byte) : Response :=
  ⟨.ok, byte k ++ byte parts.length ++ stretch⟩

/-- A read in parts carried out, with the whole answer it would form now (R183). -/
def State.readParts (s : State) (read : PartsOf) (k : Nat) (answer : List Byte) : State :=
  if k = 0 then
    let parts := partsOf answer
    (s.modPort fun p => { p with snapshot := some ⟨read, parts⟩ }).answer
      (partResponse 0 parts ((parts[0]?).getD []))
  else
    match s.port.snapshot with
    | none => s.answer (refusal .badArgument)
    | some snap =>
      if snap.of = read then
        match snap.parts[k]? with
        | some stretch => s.answer (partResponse k snap.parts stretch)
        | none => s.answer (refusal .badArgument)
      else s.answer (refusal .badArgument)

/-- One command frame of a read in parts. -/
def State.runRead (s : State) (row : CommandRow) (payload : List Byte) (read : PartsOf)
    (answer : List Byte) : Host.Outcome State Fault Refusal :=
  match s.portCheck row payload with
  | some status => done (s.shiftOut.answer (refusal status))
  | none => done (s.shiftOut.readParts read (field payload 0 1) answer)

end Sys2Proof.Machine
end

