-- ==== Sys2Proof/Machine/Pledges.lean ====
section
/-! DEFINITION. The Sharing Unit's shared operations on the giver's and the requester's side (R155 to
R164). -/

namespace Sys2Proof.Machine

/-- An addressed frame's three leading fields. -/
def toField (station : Nat) : BitVec 8 := BitVec.ofNat 8 station
def noField (n : Nat) : BitVec 16 := BitVec.ofNat 16 n

/-! ## Giving -/

/-- Eligible to give, with `held` entries of the pledge table counted (R158; R159 counts the station's
own DELAYED entry as free). -/
def State.eligible (s : State) (heldEntries : Nat) : Bool :=
  (s.acct.mode == .active || s.acct.mode == .contactDue || s.acct.mode == .exhausted) &&
  s.bus.state == .active && s.share.want.isNone && decide (heldEntries < 4) &&
  decide (s.share.outRecord.length + heldEntries < 8) && decide (100 ≤ s.surplus)

/-- Whether a peer stands in the way of the station's ranking first for the want of X (R159). -/
def Peer.outranks (p : Peer) (x own surplus : Nat) : Bool :=
  p.liveness == .live && p.station != x && !p.flags.wanting && !p.flags.contactLocked &&
  !p.flags.exhausted &&
  (decide (surplus < p.surplus) || (surplus == p.surplus && decide (p.station < own)))

/-- Whether the station ranks first for the want of X (R159). -/
def State.ranksFirst (s : State) (x : Nat) : Bool :=
  s.acct.mode == .exhausted ||
    s.bus.peers.all fun p => !p.outranks x (s.station.getD 0) s.surplus

/-- A pledge-table entry of a requester and a want number. -/
def PledgeEntry.isFor (e : PledgeEntry) (requester wantNo : Nat) : Bool :=
  e.requester == requester && e.wantNo == wantNo

/-- The pledge table without the entry of a requester and a want number. -/
def State.dropPledge (s : State) (requester wantNo : Nat) : State :=
  s.modShare fun u => { u with pledges := u.pledges.filter fun e => !e.isFor requester wantNo }

/-- The OPEN entry of a pledge: the DELAYED entry made OPEN in its place, or a new one (R160). -/
def putOffer (requester wantNo asked : Nat) (o : Offer) (entries : List PledgeEntry) :
    List PledgeEntry :=
  if entries.any fun e => e.isFor requester wantNo then
    entries.map fun e => if e.isFor requester wantNo then { e with offer := some o, age := 0 } else e
  else entries ++ [⟨requester, wantNo, asked, some o, 0⟩]

/-- The amount of a pledge (R158). -/
def State.pledgeAmount (s : State) (asked : Nat) : Nat :=
  min (min asked s.surplus) ((s.port.settings.map (·.maxPledge)).getD 0)

/-- A pledge to the want of X made (R160); when the surplus has fallen below 100 a DELAYED entry is
dropped and nothing is sent. -/
def State.makePledge (s : State) (x wantNo asked : Nat) : State :=
  if s.surplus < 100 then s.dropPledge x wantNo
  else
    let a := s.pledgeAmount asked
    let no := nextNumber s.share.lastPledge
    let s1 := (s.post (.pledge a)).modShare fun u =>
      { u with lastPledge := no, pledges := putOffer x wantNo asked ⟨no, a⟩ u.pledges }
    (s1.handOver (.pledge (toField x) (noField wantNo) (noField no) (BitVec.ofNat 24 a))).afterAvail

/-- A WANT heard (R158, R159). -/
def State.wantHeard (s : State) (x wantNo amount : Nat) : State :=
  if 100 ≤ amount ∧ !(s.share.pledges.any fun e => e.isFor x wantNo) ∧
      !(s.share.outRecord.any fun t => t.station == x && t.wantNo == wantNo) ∧
      s.eligible s.share.pledges.length then
    if s.ranksFirst x then s.makePledge x wantNo amount
    else s.modShare fun u => { u with pledges := u.pledges ++ [⟨x, wantNo, amount, none, 0⟩] }
  else s

/-- The DELAYED entry of a requester and a want number, if one is held. -/
def State.delayed (s : State) (requester wantNo : Nat) : Option PledgeEntry :=
  s.share.pledges.find? fun e => e.isFor requester wantNo && e.offer.isNone

/-- The backup delay of a DELAYED entry expires (R159). -/
def State.backupExpired (s : State) (x wantNo : Nat) : State :=
  match s.delayed x wantNo with
  | none => s
  | some e =>
    if s.eligible (s.share.pledges.length - 1) then s.makePledge x wantNo e.asked
    else s.dropPledge x wantNo

/-- The open pledge of a requester, a want number and a pledge number. -/
def State.openPledge (s : State) (requester wantNo pledgeNo : Nat) : Option Offer :=
  s.share.pledges.findSome? fun e =>
    match e.offer with
    | some o => if e.isFor requester wantNo && o.pledgeNo == pledgeNo then some o else none
    | none => none

/-- The OPEN entry of a requester and a want number. -/
def State.openOffer (s : State) (requester wantNo : Nat) : Option Offer :=
  s.share.pledges.findSome? fun e => if e.isFor requester wantNo then e.offer else none

/-- An open pledge returned: the posting, and the entry removed (R11, R160). -/
def State.returnPledge (s : State) (requester wantNo : Nat) (o : Offer) : State :=
  ((s.post (.pledgeReturned o.amount)).dropPledge requester wantNo).afterAvail

/-- The three numbers by which a transfer is matched. -/
def Transfer.isFor (t : Transfer) (station wantNo pledgeNo : Nat) : Bool :=
  t.station == station && t.wantNo == wantNo && t.pledgeNo == pledgeNo

/-- A TAKE or an ASK answered (R161). -/
def State.answerTake (s : State) (x wantNo pledgeNo : Nat) : State :=
  match s.openPledge x wantNo pledgeNo with
  | some o =>
    let t : Transfer := ⟨x, wantNo, pledgeNo, o.amount⟩
    let s1 := (s.post (.pledgeConcluded o.amount)).modShare fun u =>
      { u with outRecord := u.outRecord ++ [t] }
    ((s1.dropPledge x wantNo).handOver t.settled).raise .transferOut
  | none =>
    match s.share.outRecord.find? fun t => t.isFor x wantNo pledgeNo with
    | some t => s.handOver t.settled
    | none => s.handOver (.void (toField x) (noField wantNo) (noField pledgeNo))

/-- A WAIVE taken (R160). -/
def State.waived (s : State) (x wantNo pledgeNo : Nat) : State :=
  match s.openPledge x wantNo pledgeNo with
  | some o => s.returnPledge x wantNo o
  | none => s

/-- A RECEIVED taken: the matching out-record entry removed (R161). -/
def State.acknowledged (s : State) (x wantNo pledgeNo : Nat) : State :=
  s.modShare fun u => { u with outRecord := u.outRecord.filter fun t => !t.isFor x wantNo pledgeNo }

/-! ## Asking -/

/-- A WAIVE for a pledge not taken (R156). -/
def State.waive (s : State) (giver wantNo pledgeNo : Nat) : State :=
  s.handOver (.waive (toField giver) (noField wantNo) (noField pledgeNo))

/-- Whether a PLEDGE can be taken for the open want: ASKED with its window running, the same want
number, the amount between 100 and the amount asked (R155). -/
def State.takeable (s : State) (wantNo amount : Nat) : Bool :=
  match s.share.want with
  | none => false
  | some w =>
    w.taken.isNone && s.share.wantWindow.isSome && w.no == wantNo && decide (100 ≤ amount) &&
      decide (amount ≤ w.asked)

/-- Whether the open want was sent for a request (R148). -/
def State.wantForRequest (s : State) : Bool := s.share.want.any (·.forRequest)

/-- The take of a pledge: the posting with the want made TAKEN, the TAKE handed over and the settle
timer started (R155). -/
def State.takePledge (s : State) (giver wantNo pledgeNo amount : Nat) : State :=
  let s1 := (s.post (.takePledge amount)).modShare fun u =>
    { u with
      want := u.want.map fun w => { w with taken := some ⟨giver, pledgeNo, amount, 0⟩ }
      wantWindow := none, settleTimer := some 2000 }
  (s1.handOver (.take (toField giver) (noField wantNo) (noField pledgeNo) (BitVec.ofNat 24 amount))).evalWant

/-- A PLEDGE addressed to this station (R155, R156). -/
def State.pledgeForUs (s : State) (giver wantNo pledgeNo amount : Nat) : State :=
  if s.takeable wantNo amount then
    if amount ≤ s.room then s.takePledge giver wantNo pledgeNo amount
    else ((s.waive giver wantNo pledgeNo).closeWant.raiseIf s.wantForRequest .wantFailed).evalStanding
  else s.waive giver wantNo pledgeNo

/-- A PLEDGE addressed to another station cancels the DELAYED entry for that station's want (R159). -/
def State.pledgeForOther (s : State) (dest wantNo : Nat) : State :=
  s.modShare fun u =>
    { u with pledges := u.pledges.filter fun e => !(e.isFor dest wantNo && e.offer.isNone) }

/-- The TAKEN want that matches a giver, a want number and a pledge number (R162, R163). -/
def State.takenMatch (s : State) (giver wantNo pledgeNo : Nat) : Option Taken :=
  match s.share.want with
  | none => none
  | some w =>
    match w.taken with
    | none => none
    | some t =>
      if w.no == wantNo && t.giver == giver && t.pledgeNo == pledgeNo then some t else none

/-- The unresolved entry that matches (R162, R163, R165). -/
def State.unresolvedMatch (s : State) (giver wantNo pledgeNo : Nat) : Option Transfer :=
  s.share.unresolved.find? fun t => t.isFor giver wantNo pledgeNo

/-- The unresolved list without its first entry that matches (R162, R163, R165). -/
def State.dropUnresolved (s : State) (giver wantNo pledgeNo : Nat) : State :=
  s.modShare fun u => { u with unresolved := u.unresolved.eraseP fun t => t.isFor giver wantNo pledgeNo }

/-- The RECEIVED that acknowledges a SETTLED (R162). -/
def State.acknowledge (s : State) (giver wantNo pledgeNo : Nat) : State :=
  s.handOver (.received (toField giver) (noField wantNo) (noField pledgeNo))

/-- A SETTLED taken (R162); the amount is the one recorded here, not the frame's. -/
def State.settlementHeard (s : State) (giver wantNo pledgeNo : Nat) : State :=
  match s.takenMatch giver wantNo pledgeNo with
  | some t =>
    (((s.post (.settlement t.amount)).closeWant.acknowledge giver wantNo pledgeNo).raise .transferIn).afterAvail
  | none =>
    match s.unresolvedMatch giver wantNo pledgeNo with
    | some t =>
      ((((s.post (.settlement t.amount)).dropUnresolved giver wantNo pledgeNo).acknowledge giver wantNo
        pledgeNo).raise .transferIn).afterAvail
    | none => (s.acknowledge giver wantNo pledgeNo).raise .straySettlement

/-- A VOID taken (R163). -/
def State.voidHeard (s : State) (giver wantNo pledgeNo : Nat) : State :=
  match s.takenMatch giver wantNo pledgeNo with
  | some t =>
    (((s.post (.voided t.amount)).closeWant.raiseIf s.wantForRequest .wantFailed).evalStanding).evalWant
  | none =>
    match s.unresolvedMatch giver wantNo pledgeNo with
    | some t => ((s.post (.voided t.amount)).dropUnresolved giver wantNo pledgeNo).evalWant
    | none => s

/-- An ASK to a giver (R163, R164). -/
def State.sendAsk (s : State) (giver wantNo pledgeNo : Nat) : State :=
  s.handOver (.ask (toField giver) (noField wantNo) (noField pledgeNo))

/-- The TAKEN want moved into the unresolved list: its entry added at the newest end, the want removed,
and UNRESOLVED raised (R164, R166). The retry interval is the caller's. The entry is added also where one
of the same giver, want no and pledge no is still held, which the numbers allow once they wrap: R151 holds
no two such entries and gives no step for it (the model's choice, assumption log 49). -/
def State.wantToUnresolved (s : State) (w : Want) (t : Taken) : State :=
  (s.modShare fun u =>
    { u with
      unresolved := u.unresolved ++ [⟨t.giver, w.no, t.pledgeNo, t.amount⟩]
      want := none, wantWindow := none, settleTimer := none }).raise .unresolved

/-- The settle timer expires (R163, R164). -/
def State.settleExpired (s : State) : State :=
  match s.share.want with
  | none => s.modShare fun u => { u with settleTimer := none }
  | some w =>
    match w.taken with
    | none => s.modShare fun u => { u with settleTimer := none }
    | some t =>
      if t.attempts < 3 then
        (s.modShare fun u =>
          { u with
            want := some { w with taken := some { t with attempts := t.attempts + 1 } }
            settleTimer := some 2000 }).sendAsk t.giver w.no t.pledgeNo
      else
        ((s.wantToUnresolved w t).modShare fun u => { u with retry := some 5000 }).evalStanding

/-- One ASK for each unresolved entry of a giver whose STANDING is heard (R126, R164). -/
def State.askUnresolved (s : State) (giver : Nat) : State :=
  s.share.unresolved.foldl
    (fun s t => if t.station = giver then s.sendAsk giver t.wantNo t.pledgeNo else s) s

end Sys2Proof.Machine
end

