-- ==== Sys2Proof/Machine/Receive.lean ====
section
/-! DEFINITION. The receiving side of the Bus Interface: the checks of R114, the duplicate station
(R119), the peer table (R124), the STANDING (R126) and the handing of accepted frames to their
owners. -/

namespace Sys2Proof.Machine

/-- A frame ignored: the count rises and stops at 65,535 (R114). -/
def State.ignoreFrame (s : State) : State :=
  s.modBus fun b => { b with ignored := min (b.ignored + 1) 65535 }

/-- A frame with the own number as sender (R119): from JOINING and ACTIVE into SILENCED, and the alarm
in every state that receives. -/
def State.duplicateFrame (s : State) : State :=
  (if s.busSends then
    s.modBus fun b => { b with state := .silenced, tx := [], standingTimer := none }
  else s).raise .duplicateStation

/-- A peer entry at its creation: LIVE with age 0 (R124). -/
def Peer.new (station : Nat) : Peer := ⟨station, 0, 0, .clear, 0, .live⟩

/-- The entry of a station changed, or a new one made and changed, in its place by number (R124, R127). -/
def updatePeer (x : Nat) (f : Peer → Peer) : List Peer → List Peer
  | [] => [f (Peer.new x)]
  | p :: rest =>
    if p.station = x then f p :: rest
    else if x < p.station then f (Peer.new x) :: p :: rest
    else p :: updatePeer x f rest

/-- The sender's entry LIVE with age 0 (R124). -/
def State.hearPeer (s : State) (x : Nat) : State :=
  s.modBus fun b =>
    { b with peers := updatePeer x (fun p => { p with age := 0, liveness := .live }) b.peers }

/-- The sender's entry given the figures of a STANDING (R124). -/
def State.notePeer (s : State) (x surplus day : Nat) (flags : StandingFlags) : State :=
  s.modBus fun b =>
    { b with
      peers := updatePeer x (fun p => { p with surplus := surplus, day := day, flags := flags }) b.peers }

/-- A STANDING acted on (R124, R126). -/
def State.standingHeard (s : State) (x surplus day : Nat) (flags : StandingFlags) : State :=
  ((s.notePeer x surplus day flags).raiseIf (day != s.rates.day) .daySkew).askUnresolved x

/-- A reel note handed to the Stock Unit (R131, R137, R139, R140). -/
def State.noteHeard (s : State) (x : Nat) (kind : NoteKind) (id remaining denomination : Nat) : State :=
  match kind with
  | .mounted | .empty => s.claimHeard id
  | .released => s.releaseHeard x id remaining denomination

/-- A frame handed to the Sharing Unit or, a REEL-ASK, to the Stock Unit. An addressed kind acts at the
station it names; a PLEDGE to another cancels a DELAYED entry (R155 to R163, R138). -/
def State.frameHeard (s : State) (x : Nat) (f : BusFrame) : State :=
  if f.dest?.all fun d => some d == s.station then
    match f with
    | .want w a => s.wantHeard x w.toNat a.toNat
    | .pledge _ w p a => s.pledgeForUs x w.toNat p.toNat a.toNat
    | .take _ w p _ | .ask _ w p => s.answerTake x w.toNat p.toNat
    | .waive _ w p => s.waived x w.toNat p.toNat
    | .settled _ w p _ => s.settlementHeard x w.toNat p.toNat
    | .received _ w p => s.acknowledged x w.toNat p.toNat
    | .void _ w p => s.voidHeard x w.toNat p.toNat
    | .reelAsk id => s.answerAsk id.toNat
    | .reelNote _ _ _ _ | .standing _ _ _ => s
  else
    match f with
    | .pledge d w _ _ => s.pledgeForOther d.toNat w.toNat
    | _ => s

/-- An accepted frame: the peer entry first, then the owner of the kind. In SILENCED only STANDING and
reel notes reach an owner (R114, R119). -/
def State.acceptFrame (s : State) (x : Nat) (f : BusFrame) : State :=
  let s1 := s.hearPeer x
  match f with
  | .standing surplus day flags => s1.standingHeard x surplus.toNat day.toNat (.ofByte flags)
  | .reelNote kind id r d => s1.noteHeard x kind id.toNat r.toNat d.toNat
  | other => if s.bus.state = .silenced then s1 else s1.frameHeard x other

/-- Whether a frame passes check 7 of R114. -/
def destOk (f : BusFrame) : Bool := f.dest?.all fun d => decide (1 ≤ d ∧ d ≤ 30)

/-- Checks 3 to 7 of R114 on a sender and what kind code and data spell. -/
def State.receiveFrom (s : State) (x : Nat) (f : Option BusFrame) : State :=
  if x = 0 ∨ x = 31 then s.ignoreFrame
  else if s.station = some x then s.duplicateFrame
  else
    match f with
    | none => s.ignoreFrame
    | some f => if destOk f then s.acceptFrame x f else s.ignoreFrame

/-- A frame of a kind of its own received; nothing is received in QUIET and OFF (R114). -/
def State.receive (s : State) (sender : BitVec 5) (f : BusFrame) : State :=
  if s.busReceives then s.receiveFrom sender.toNat (some f) else s

/-- A frame as the controller delivers it, checked as R114 gives. -/
def State.receiveRaw (s : State) (f : RxFrame) : State :=
  if s.busReceives then
    if f.extended ∨ f.remote then s.ignoreFrame
    else s.receiveFrom (f.ident.toNat % 32) (busFrameOf (f.ident.toNat / 32) f.data)
  else s

end Sys2Proof.Machine
end

