-- ==== Sys2Proof/Machine/ExecBus.lean ====
section
/-! DEFINITION. Meanings of the Bus Interface's rows: its commands, the received frames, the reports of
the bus controller, and its timers. -/

namespace Sys2Proof.Machine

/-- READ BUS (R127). -/
def execReadBus (p : List Byte) (s : State) : Host.Outcome State Fault Refusal :=
  s.runCommand .readBus p fun s => (s, ⟨.ok, s.busBytes⟩)

/-- READ PEERS (R127, R183). -/
def execReadPeers (p : List Byte) (s : State) : Host.Outcome State Fault Refusal :=
  s.runRead .readPeers p .peers s.peersBytes

/-- BUS RESTART (R118): taken in OFF; the controller is not on the bus until it reports its return. -/
def busRestartBody (s : State) : State × Response :=
  if s.bus.state = .off then (s.enterJoining false, okResponse) else (s, refusal .busy)

/-- BUS RESTART (R118). -/
def execBusRestart (p : List Byte) (s : State) : Host.Outcome State Fault Refusal :=
  s.runCommand .busRestart p busRestartBody

/-! ## Received frames -/

/-- A frame that a check of R114 stops. -/
def execFrameIgnored (f : RxFrame) (s : State) : Host.Outcome State Fault Refusal :=
  done (s.receiveRaw f)

/-- A frame whose sender is the own number (R119). -/
def execDuplicateStation (f : RxFrame) (s : State) : Host.Outcome State Fault Refusal :=
  done (s.receiveRaw f)

/-- STANDING (R124, R126). -/
def execStanding (sender : BitVec 5) (surplus : BitVec 24) (day : BitVec 16) (flags : BitVec 8)
    (s : State) : Host.Outcome State Fault Refusal :=
  done (s.receive sender (.standing surplus day flags))

/-- WANT (R158). -/
def execWant (sender : BitVec 5) (wantNo : BitVec 16) (amount : BitVec 24) (s : State) :
    Host.Outcome State Fault Refusal :=
  done (s.receive sender (.want wantNo amount))

/-- PLEDGE (R155, R156, R159). -/
def execPledge (sender : BitVec 5) (dest : BitVec 8) (wantNo pledgeNo : BitVec 16)
    (amount : BitVec 24) (s : State) : Host.Outcome State Fault Refusal :=
  done (s.receive sender (.pledge dest wantNo pledgeNo amount))

/-- TAKE (R161). -/
def execTake (sender : BitVec 5) (dest : BitVec 8) (wantNo pledgeNo : BitVec 16)
    (amount : BitVec 24) (s : State) : Host.Outcome State Fault Refusal :=
  done (s.receive sender (.take dest wantNo pledgeNo amount))

/-- ASK (R161). -/
def execAsk (sender : BitVec 5) (dest : BitVec 8) (wantNo pledgeNo : BitVec 16) (s : State) :
    Host.Outcome State Fault Refusal :=
  done (s.receive sender (.ask dest wantNo pledgeNo))

/-- WAIVE (R160). -/
def execWaive (sender : BitVec 5) (dest : BitVec 8) (wantNo pledgeNo : BitVec 16) (s : State) :
    Host.Outcome State Fault Refusal :=
  done (s.receive sender (.waive dest wantNo pledgeNo))

/-- SETTLED (R162). -/
def execSettled (sender : BitVec 5) (dest : BitVec 8) (wantNo pledgeNo : BitVec 16)
    (amount : BitVec 24) (s : State) : Host.Outcome State Fault Refusal :=
  done (s.receive sender (.settled dest wantNo pledgeNo amount))

/-- RECEIVED (R161). -/
def execReceived (sender : BitVec 5) (dest : BitVec 8) (wantNo pledgeNo : BitVec 16) (s : State) :
    Host.Outcome State Fault Refusal :=
  done (s.receive sender (.received dest wantNo pledgeNo))

/-- VOID (R163). -/
def execVoid (sender : BitVec 5) (dest : BitVec 8) (wantNo pledgeNo : BitVec 16) (s : State) :
    Host.Outcome State Fault Refusal :=
  done (s.receive sender (.void dest wantNo pledgeNo))

/-- REEL-NOTE MOUNTED (R137, R139). -/
def execReelNoteMounted (sender : BitVec 5) (reelId : BitVec 32) (remaining denomination : BitVec 16)
    (s : State) : Host.Outcome State Fault Refusal :=
  done (s.receive sender (.reelNote .mounted reelId remaining denomination))

/-- REEL-NOTE RELEASED (R131, R137, R140). -/
def execReelNoteReleased (sender : BitVec 5) (reelId : BitVec 32)
    (remaining denomination : BitVec 16) (s : State) : Host.Outcome State Fault Refusal :=
  done (s.receive sender (.reelNote .released reelId remaining denomination))

/-- REEL-NOTE EMPTY (R137, R140). -/
def execReelNoteEmpty (sender : BitVec 5) (reelId : BitVec 32) (remaining denomination : BitVec 16)
    (s : State) : Host.Outcome State Fault Refusal :=
  done (s.receive sender (.reelNote .empty reelId remaining denomination))

/-- REEL-ASK (R138). -/
def execReelAsk (sender : BitVec 5) (reelId : BitVec 32) (s : State) :
    Host.Outcome State Fault Refusal :=
  done (s.receive sender (.reelAsk reelId))

/-! ## Reports of the bus controller -/

/-- The loaded frame leaves the queue and the front is loaded (R120); the first own frame sent moves
JOINING to ACTIVE, on which the WANT conditions are evaluated (R116, R154; assumption log 38). -/
def State.frameSent (s : State) : State :=
  if s.bus.tx.any (·.loaded) then
    let s1 := (s.modBus fun b => { b with tx := b.tx.filter fun e => !e.loaded }).loadFront
    if s.bus.state = .joining then (s1.modBus fun b => { b with state := .active }).evalWant else s1
  else s

/-- FRAME_SENT (R116, R120). -/
def execFrameSent (s : State) : Host.Outcome State Fault Refusal := done s.frameSent

/-- The queue after a failed attempt: the frame waits in its place, but a STANDING for which a newer one
waits is dropped (R120, R121). -/
def txReturned (tx : List TxEntry) : List TxEntry :=
  let newer := tx.any (·.waitingStanding)
  (tx.filter fun e => !(e.loaded && newer && e.frame.code == 48)).map fun e => ⟨e.frame, false⟩

/-- A failed attempt: the frame returns and the front is loaded again (R120). -/
def State.frameNotSent (s : State) : State :=
  if s.bus.tx.any (·.loaded) then (s.modBus fun b => { b with tx := txReturned b.tx }).loadFront else s

/-- FRAME_NOT_SENT (R120). -/
def execFrameNotSent (s : State) : Host.Outcome State Fault Refusal := done s.frameNotSent

/-- Bus-off (R117). -/
def State.busOff (s : State) : State :=
  if s.busSends then
    (s.modBus fun b =>
      { b with state := .off, controllerOn := false, tx := [], standingTimer := none }).raise .busOff
  else s

/-- BUS_OFF (R117). -/
def execBusOff (s : State) : Host.Outcome State Fault Refusal := done s.busOff

/-- The controller is on the bus again, and the front frame is loaded (R118). A report that comes while
the station is in OFF is dropped (assumption log 47). -/
def State.controllerReturn (s : State) : State :=
  if s.busSends then (s.modBus fun b => { b with controllerOn := true }).loadFront else s

/-- BUS_CONTROLLER_RETURN (R118). -/
def execBusControllerReturn (s : State) : Host.Outcome State Fault Refusal := done s.controllerReturn

/-! ## Timers -/

/-- The STANDING timer runs out (R123). -/
def State.standingExpiry (s : State) : State :=
  if s.bus.standingTimer.isSome then
    (s.modBus fun b => { b with standingTimer := none }).handStanding
  else s

/-- STANDING_TIMER_EXPIRY (R123). -/
def execStandingTimerExpiry (s : State) : Host.Outcome State Fault Refusal := done s.standingExpiry

/-- A peer's age reaches three intervals: it becomes SILENT (R125; assumption log 25). -/
def State.peerAgeing (s : State) (x : Nat) : State :=
  s.modBus fun b =>
    { b with
      peers := b.peers.map fun p =>
        if p.station = x then { p with liveness := .silent, age := max p.age (3 * s.intervalMs) }
        else p }

/-- PEER_AGEING (R125). -/
def execPeerAgeing (station : BitVec 5) (s : State) : Host.Outcome State Fault Refusal :=
  done (s.peerAgeing station.toNat)

end Sys2Proof.Machine
end

