-- ==== Sys2Proof/Machine/ExecGrants.lean ====
section
/-! DEFINITION. Meanings of the Grant Table's rows: WRITE GRANT, READ GRANT, CLOSE PERIOD. -/

namespace Sys2Proof.Machine

/-- Checks 3 to 5 of R32 on a WRITE GRANT payload. -/
def grantPayloadOk (p : List Byte) : Bool :=
  let g := grantOfPayload p .blank
  decide ((flagsByte p 1).toNat < 16) && decide (g.amount ≤ 1048575) && decide (g.level ≤ 3) &&
  !(g.present && g.dept == 0) && !(g.kind == .prepaid && g.coarse)

/-- WRITE GRANT (R32). -/
def writeGrantBody (p : List Byte) (s : State) : State × Response :=
  let i := field p 0 1
  if i = 0 then (s, refusal .nullGrant)
  else if 63 < i ∨ !grantPayloadOk p then (s, refusal .badArgument)
  else (s.setGrant i (grantOfPayload p (s.grant i)), okResponse)

/-- WRITE GRANT (R32). -/
def execWriteGrant (p : List Byte) (s : State) : Host.Outcome State Fault Refusal :=
  s.runCommand .writeGrant p (writeGrantBody p)

/-- READ GRANT (R36). -/
def readGrantBody (p : List Byte) (s : State) : State × Response :=
  if 63 < field p 0 1 then (s, refusal .badArgument)
  else (s, ⟨.ok, s.grantBytes (field p 0 1)⟩)

/-- READ GRANT (R36). -/
def execReadGrant (p : List Byte) (s : State) : Host.Outcome State Fault Refusal :=
  s.runCommand .readGrant p (readGrantBody p)

/-- One record at the close of a period (R37). -/
def Grant.closePeriod (g : Grant) : Grant :=
  { g with spentLast := g.spent, spent := 0, imprints := 0, stamps := 0, accessed := false }

/-- The table at the close of a period (R21, R37). -/
def GrantTable.closePeriod (t : GrantTable) : GrantTable :=
  ⟨t.records.map Grant.closePeriod, (t.period + 1) % 65536⟩

/-- CLOSE PERIOD (R37). -/
def closePeriodBody (s : State) : State × Response :=
  if s.allIdle then
    ({ s with grants := s.grants.closePeriod }, ⟨.ok, beBytes 2 s.grants.closePeriod.period⟩)
  else (s, refusal .slotsOpen)

/-- CLOSE PERIOD (R37). -/
def execClosePeriod (p : List Byte) (s : State) : Host.Outcome State Fault Refusal :=
  s.runCommand .closePeriod p closePeriodBody

end Sys2Proof.Machine
end

