-- ==== Sys2Proof/Machine/ExecJobs.lean ====
section
/-! DEFINITION. Meanings of the Job Walker's rows: WRITE JOB to READ WALKER. -/

namespace Sys2Proof.Machine

/-- WRITE JOB (R99). -/
def writeJobBody (p : List Byte) (s : State) : State × Response :=
  let a := field p 0 2
  if 4095 < a ∨ p.length ≤ 2 ∨ 58 < p.length then (s, refusal .badArgument)
  else ({ s with job := { s.job with memory := s.job.memory.jobWrite a (p.drop 2) } }, okResponse)

/-- WRITE JOB (R99). -/
def execWriteJob (p : List Byte) (s : State) : Host.Outcome State Fault Refusal :=
  s.runCommand .writeJob p (writeJobBody p)

/-- READ JOB (R99). -/
def readJobBody (p : List Byte) (s : State) : State × Response :=
  let a := field p 0 2
  let len := field p 2 1
  if 4095 < a ∨ len = 0 ∨ 56 < len then (s, refusal .badArgument)
  else (s, ⟨.ok, s.job.memory.jobBytes a len⟩)

/-- READ JOB (R99). -/
def execReadJob (p : List Byte) (s : State) : Host.Outcome State Fault Refusal :=
  s.runCommand .readJob p (readJobBody p)

/-- The walker cleared for a new chain (R104; assumption log 14). -/
def Walker.fresh (w : Walker) : Walker :=
  { w with
    heldReason := .none, stopReason := .none, stopAddress := 0, haltPending := false, linesDone := 0
    latchedAllOrNone := false, latchedAutoClose := false }

/-- The fetch of a chain's first line (R104). -/
def State.startJob (s : State) (address : Nat) (allOrNone autoClose : Bool) : State :=
  (s.modWalker Walker.fresh).walkerFetch address allOrNone autoClose

/-- START JOB (R104). The response shows the walker after the fetch (assumption log 13). Of two refusals
that both apply, BAD_ARGUMENT is given before BUSY (assumption log 43). -/
def startJobBody (p : List Byte) (s : State) : State × Response :=
  let a := field p 0 2
  let flags := flagsByte p 2
  if 4095 < a ∨ flags.toNat % 64 ≠ 0 then (s, refusal .badArgument)
  else
    match s.job.walker.state with
    | .running | .waiting | .held => (s, refusal .busy)
    | .idle | .done | .faulted =>
      let t := s.startJob a (flags.getLsbD 6) (flags.getLsbD 7)
      (t.considerStart, ⟨.ok, t.job.walker.startBytes⟩)

/-- START JOB (R104). -/
def execStartJob (p : List Byte) (s : State) : Host.Outcome State Fault Refusal :=
  s.runCommand .startJob p (startJobBody p)

/-- A HELD walker goes on up to its append (R109). -/
def State.resumeJob (s : State) : State :=
  let s1 := s.modWalker fun w => { w with heldReason := .none }
  match s.job.walker.heldReason with
  | .noCredit => s1.walkerAppend
  | .linkHold | .none => s1.walkerNext

/-- RESUME JOB (R109). The response carries the walker state after the whole command, and the id of the
run appended though it may have ended in the same step (assumption log 13). -/
def resumeJobBody (s : State) : State × Response :=
  if s.job.walker.state = .held then
    let m := s.resumeJob
    let t := m.considerStart
    (t, ⟨.ok, t.job.walker.resumeBytes m.job.walker.run⟩)
  else (s, refusal .busy)

/-- RESUME JOB (R109). -/
def execResumeJob (p : List Byte) (s : State) : Host.Outcome State Fault Refusal :=
  s.runCommand .resumeJob p resumeJobBody

/-- The walker IDLE (R110). -/
def State.walkerIdle (s : State) : State :=
  s.modWalker fun w => { w with state := .idle, haltPending := false }

/-- The walker halted (R110). -/
def State.haltJob (s : State) : State :=
  match s.job.walker.state with
  | .idle => s
  | .waiting | .held | .done | .faulted => s.walkerIdle
  | .running =>
    if s.job.walker.haltPending then s
    else
      match s.job.walker.run with
      | none => s.walkerIdle
      | some id =>
        ((s.modWalker fun w => { w with haltPending := true }).endRequest id .halted).considerStart

/-- HALT JOB (R110). -/
def haltJobBody (s : State) : State × Response :=
  (s.haltJob, ⟨.ok, byte s.haltJob.job.walker.state.code⟩)

/-- HALT JOB (R110). -/
def execHaltJob (p : List Byte) (s : State) : Host.Outcome State Fault Refusal :=
  s.runCommand .haltJob p haltJobBody

/-- READ WALKER (R111). -/
def execReadWalker (p : List Byte) (s : State) : Host.Outcome State Fault Refusal :=
  s.runCommand .readWalker p fun s => (s, ⟨.ok, s.job.walker.bytes⟩)

end Sys2Proof.Machine
end

