-- ==== Sys2Proof/Machine/ExecRuns.lean ====
section
/-! DEFINITION. Meanings of the Run Controller's rows: START RUN to READ FINISHED, the mechanism's
outcomes, and the end of the sending. -/

namespace Sys2Proof.Machine

/-- The checks of R78. -/
def State.startRunCheck (s : State) (a : RunArgs) : Option Status :=
  if 3 < a.slot then some .badArgument
  else
    match (s.slot a.slot).state with
    | .idle => some .slotIdle
    | .closing => some .slotClosing
    | .opened =>
      if (s.slot a.slot).grant = 0 then some .nullGrant
      else if !a.ok then some .badArgument
      else if 8 ≤ s.runs.queue.length then some .queueFull
      else none

/-- The run of a START RUN (R78). -/
def RunArgs.run (a : RunArgs) : Run :=
  newRun .command a.slot a.tariff (if a.tariff = 255 then some a.direct else none) a.weight
    (if a.continuous then none else some a.count) a.allOrNone a.autoClose a.endorsements

/-- START RUN (R78, R79). -/
def startRunBody (p : List Byte) (s : State) : State × Response :=
  match s.startRunCheck (runArgs p) with
  | some status => (s, refusal status)
  | none => ((s.appendRun (runArgs p).run).considerStart, ⟨.ok, byte s.newRunId⟩)

/-- START RUN (R78). -/
def execStartRun (p : List Byte) (s : State) : Host.Outcome State Fault Refusal :=
  s.runCommand .startRun p (startRunBody p)

/-- Whether an end request leaves a run STOPPING (R92). -/
def State.stops (s : State) (r : Run) : Bool :=
  r.state == .stopping || (r.state == .printing && s.runs.inFlight.isSome)

/-- STOP RUN (R93). -/
def stopRunBody (p : List Byte) (s : State) : State × Response :=
  match s.findRun (field p 0 1) with
  | none => (s, refusal .noEntry)
  | some r =>
    ((s.endRequest r.id .stopped).considerStart, ⟨.ok, byte (if s.stops r then 3 else 4)⟩)

/-- STOP RUN (R93). -/
def execStopRun (p : List Byte) (s : State) : Host.Outcome State Fault Refusal :=
  s.runCommand .stopRun p (stopRunBody p)

/-- A JAMMED run continued (R91). -/
def State.resumeRun (s : State) (id : Nat) : State :=
  ((s.modRun id fun q => { q with state := .printing }).authorise id).considerStart

/-- RESUME RUN (R91). -/
def resumeRunBody (p : List Byte) (s : State) : State × Response :=
  match s.findRun (field p 0 1) with
  | none => (s, refusal .noEntry)
  | some r =>
    if r.state = .jammed then (s.resumeRun r.id, okResponse) else (s, refusal .busy)

/-- RESUME RUN (R91). -/
def execResumeRun (p : List Byte) (s : State) : Host.Outcome State Fault Refusal :=
  s.runCommand .resumeRun p (resumeRunBody p)

/-- READ QUEUE (R96, R183). -/
def execReadQueue (p : List Byte) (s : State) : Host.Outcome State Fault Refusal :=
  s.runRead .readQueue p .queue s.queueBytes

/-- READ FINISHED (R95). -/
def execReadFinished (p : List Byte) (s : State) : Host.Outcome State Fault Refusal :=
  s.runCommand .readFinished p fun s => (s, ⟨.ok, s.finishedBytes⟩)

/-! ## Outcomes -/

/-- A qualified rise of DONE (R86, R87). -/
def State.doneRise (s : State) : State :=
  let s1 := s.takeLevel .done true
  match s1.enabledImprint with
  | none => s1.raise .lateOutcome
  | some f => s1.imprintDone f

/-- DONE_RISE (R87). -/
def execDoneRise (s : State) : Host.Outcome State Fault Refusal := done s.doneRise

/-- A qualified rise of FAULT, with CLEAN read at its qualified level (R86, R88, R89). -/
def State.faultRise (s : State) : State :=
  let s1 := s.takeLevel .fault true
  match s1.enabledImprint with
  | none => s1.raise .lateOutcome
  | some f => if s1.lines.clean.level then s1.imprintFailedClean f else s1.imprintUncertain f

/-- FAULT_RISE (R86). -/
def execFaultRise (s : State) : Host.Outcome State Fault Refusal := done s.faultRise

/-- The mechanism timer runs out (R86, R90). -/
def State.mechExpiry (s : State) : State :=
  match s.enabledImprint with
  | none => (s.modRuns fun u => { u with mechTimer := none }).raise .lateOutcome
  | some f => (s.imprintUncertain f).raise .mechTimeout

/-- MECHANISM_TIMER_EXPIRY (R90). -/
def execMechanismTimerExpiry (s : State) : Host.Outcome State Fault Refusal := done s.mechExpiry

/-- The last part of the imprint record is out: the phase becomes ENABLED and the mechanism timer starts
(R85). -/
def State.sendingEnd (s : State) : State :=
  s.modRuns fun u =>
    match u.inFlight with
    | none => { u with sending := [], sendTimer := none }
    | some f =>
      if f.phase = .sending then
        { u with
          inFlight := some { f with phase := .enabled }, sending := [], sendTimer := none
          mechTimer := some 3000 }
      else { u with sending := [], sendTimer := none }

/-- IMPRINT_SENDING_END (R85). -/
def execImprintSendingEnd (s : State) : Host.Outcome State Fault Refusal := done s.sendingEnd

end Sys2Proof.Machine
end

