-- ==== Sys2Proof/Machine/ExecStock.lean ====
section
/-! DEFINITION. Meanings of the Stock Unit's commands and line events, and of its ask window. -/

namespace Sys2Proof.Machine

/-- The checks of R133 after the feeder code. -/
def State.mountCheck (s : State) (f : Feeder) (id denomination claimed : Nat) : Option Status :=
  if id = 0 ∨ denomination = 0 ∨ claimed = 0 then some .badArgument
  else if (s.mountedIn f).isSome then some .feederOccupied
  else if (s.reel id).any fun r => r.state != .released then some .reelKnown
  else none

/-- The mount by the first case that applies, and whether ADJUSTED is raised (R133 to R136). -/
def State.mount (s : State) (f : Feeder) (id denomination claimed : Nat) : State × Bool :=
  match s.reel id with
  | some r =>
    (s.remount f r denomination claimed, claimed != r.remaining || denomination != r.denomination)
  | none =>
    match s.releasedNote id with
    | some n =>
      (s.mountFromNote f n denomination claimed,
        claimed != n.remaining || denomination != n.denomination)
    | none => (s.mountAsking f id denomination claimed, false)

/-- MOUNT REEL (R133). -/
def mountReelBody (p : List Byte) (s : State) : State × Response :=
  let id := field p 1 4
  match feederOf (field p 0 1) with
  | none => (s, refusal .badArgument)
  | some f =>
    match s.mountCheck f id (field p 5 2) (field p 7 2) with
    | some status => (s, refusal status)
    | none =>
      let t := s.mount f id (field p 5 2) (field p 7 2)
      (t.1, ⟨.ok, ((t.1.reel id).map (·.mountBytes t.2)).getD []⟩)

/-- MOUNT REEL (R133). -/
def execMountReel (p : List Byte) (s : State) : Host.Outcome State Fault Refusal :=
  s.runCommand .mountReel p (mountReelBody p)

/-- The code of an unmount's result: the entry's state after the command, or removed (R141, R195). -/
def Reel.unmountResult (r : Reel) : Nat :=
  match r.state with
  | .empty => ReelState.code .empty
  | .released => ReelState.code .released
  | .mounted => if r.check = .conflict then 3 else ReelState.code .released

/-- UNMOUNT REEL (R141). -/
def unmountReelBody (p : List Byte) (s : State) : State × Response :=
  match feederOf (field p 0 1) with
  | none => (s, refusal .badArgument)
  | some f =>
    match s.feederEntry f with
    | none => (s, refusal .feederEmpty)
    | some r => (s.unmount r, ⟨.ok, byte r.unmountResult⟩)

/-- UNMOUNT REEL (R141). -/
def execUnmountReel (p : List Byte) (s : State) : Host.Outcome State Fault Refusal :=
  s.runCommand .unmountReel p (unmountReelBody p)

/-- READ STOCK (R146, R183). -/
def execReadStock (p : List Byte) (s : State) : Host.Outcome State Fault Refusal :=
  s.runRead .readStock p .stock s.stockBytes

/-- The ISSUE line of a feeder. -/
def issueLine : Feeder → Line
  | .a => .issueA
  | .b => .issueB

/-- The REEL_LOW line of a feeder. -/
def reelLowLine : Feeder → Line
  | .a => .reelLowA
  | .b => .reelLowB

/-- ISSUE_RISE (R143, R144). -/
def execIssueRise (f : Feeder) (s : State) : Host.Outcome State Fault Refusal :=
  done ((s.takeLevel (issueLine f) true).issue f)

/-- The REEL_LOW alarm of a feeder (R145). -/
def reelLowAlarm : Feeder → Alarm
  | .a => .reelLowA
  | .b => .reelLowB

/-- REEL_LOW_RISE (R145). -/
def execReelLowRise (f : Feeder) (s : State) : Host.Outcome State Fault Refusal :=
  done ((s.takeLevel (reelLowLine f) true).raise (reelLowAlarm f))

/-- The ask window of a reel runs out, while it runs (R137). -/
def State.askWindowExpiry (s : State) (id : Nat) : State :=
  match s.reel id with
  | none => s
  | some r => if r.check = .asking ∧ r.askWindow.isSome then s.askExpired r else s

/-- ASK_WINDOW_EXPIRY (R137). -/
def execAskWindowExpiry (reelId : BitVec 32) (s : State) : Host.Outcome State Fault Refusal :=
  done (s.askWindowExpiry reelId.toNat)

end Sys2Proof.Machine
end

