-- ==== Sys2Proof/Machine/ExecLines.lean ====
section
/-! DEFINITION. Meanings of the input qualifiers' rows: SERVICE_FALL, LINE_SETTLED and
QUALIFIED_LEVEL_CHANGE. -/

namespace Sys2Proof.Machine

/-- A qualified fall of SERVICE: protection ON (R188). -/
def State.serviceFall (s : State) : State :=
  (s.takeLevel .service false).modPort fun p => { p with protection := true }

/-- SERVICE_FALL (R188). -/
def execServiceFall (s : State) : Host.Outcome State Fault Refusal := done s.serviceFall

/-- An unsettled line takes the level of its samples; no edge is reported (R186). -/
def execLineSettled (l : Line) (level : Bool) (s : State) : Host.Outcome State Fault Refusal :=
  done (s.takeLevel l level)

/-- A settled line takes a new level, and an edge that has an owner goes to it (R186). -/
def State.levelChange (s : State) (l : Line) (level : Bool) : State :=
  match l, level with
  | .issueA, true => (s.takeLevel .issueA true).issue .a
  | .issueB, true => (s.takeLevel .issueB true).issue .b
  | .reelLowA, true => (s.takeLevel .reelLowA true).raise .reelLowA
  | .reelLowB, true => (s.takeLevel .reelLowB true).raise .reelLowB
  | .done, true => s.doneRise
  | .fault, true => s.faultRise
  | .service, false => s.serviceFall
  | l, level => s.takeLevel l level

/-- QUALIFIED_LEVEL_CHANGE (R186). -/
def execQualifiedLevelChange (l : Line) (level : Bool) (s : State) :
    Host.Outcome State Fault Refusal :=
  done (s.levelChange l level)

end Sys2Proof.Machine
end

