-- ==== Sys2Proof/Machine/RestartOps.lean ====
section
/-! DEFINITION. The restart (R192), block by block in the order the spec gives: the Accounting Unit's
postings (R15), the Command Port's share (R192), the restart close of the slots (R57, R97), and the
clearing of volatile state (R112, R128, R147, R166, R186). -/

namespace Sys2Proof.Machine

/-- The restart postings, the restart spoil value and the mode (R15, R16). -/
def State.restartPostings (s : State) : State :=
  let a := if s.acct.held = 0 then s.acct else s.acct.post .uncertain
  let b := if a.escrow = 0 then a else a.post (.pledgeReturned a.escrow)
  { s with acct := { b with mode := .unconfigured, restartSpoil := s.acct.held } }

/-- The Command Port's share (R188, R191, R192). What the last transaction shifted out stays. -/
def State.restartPort (s : State) : State :=
  s.modPort fun p =>
    { p with
      settings := none, response := startResponse, snapshot := none, protection := true
      alarms := Alarm.started.word, mask := 0 }

/-- The Run Controller cleared; the run id counter is kept (R97). -/
def State.restartRuns (s : State) : State :=
  s.modRuns fun u => ⟨[], u.nextId, none, [], none, none, [], 0⟩

/-- The RESTART record of the run a slot held in progress (R97). -/
def restartRecord (id slot spoil : Nat) : Finished :=
  ⟨id, .unknown, slot, .restart, spoil, 0, 0, if spoil = 0 then 0 else 1⟩

/-- The restart close of one slot, with the record of its run in progress (R57, R97). -/
def State.restartSlot (s : State) (i : Nat) : State :=
  if (s.slot i).state = .idle then s
  else
    match (s.slot i).run with
    | none => s.closeSlot i .restart
    | some id =>
      (s.modRuns fun u => u.addFinished (restartRecord id i s.acct.restartSpoil)).closeSlot i .restart

/-- The Stock Unit at restart (R147): ASKING entries become UNVERIFIED, a change of check that takes them
to the newest place (R130; assumption log 40). -/
def StockUnit.restart (u : StockUnit) : StockUnit :=
  let asking (r : Reel) : Bool := r.check == .asking
  { u with
    released := []
    table :=
      (u.table.filter fun r => !asking r) ++
        (u.table.filter asking).map fun r => { r with check := .unverified, askWindow := none } }

/-- The Sharing Unit at restart (R166). -/
def State.restartSharing (s : State) : State :=
  let cleared (u : SharingUnit) : SharingUnit :=
    { u with
      want := none, wantWindow := none, settleTimer := none, retry := none, request := none
      pledges := [] }
  match s.share.want with
  | none => s.modShare cleared
  | some w =>
    match w.taken with
    | none => s.modShare cleared
    | some t => (s.wantToUnresolved w t).modShare cleared

/-- The Bus Interface at restart (R128). -/
def BusUnit.restarted : BusUnit := ⟨.quiet, false, [], none, 0, .clear, 0, []⟩

/-- A qualifier at restart: unsettled, low, nothing counted; the pin is the machine's (R186). -/
def Qualifier.restart (q : Qualifier) : Qualifier :=
  { q with level := false, settled := false, count := 0 }

/-- The qualifiers at restart (R186). -/
def LineBank.restart (b : LineBank) : LineBank :=
  ⟨b.issueA.restart, b.issueB.restart, b.reelLowA.restart, b.reelLowB.restart, b.service.restart,
    b.done.restart, b.fault.restart, b.clean.restart⟩

/-- The whole restart (R192). The commands that wait are the model's own and stay. -/
def State.restart (s : State) : State :=
  let s1 := s.restartPostings.restartPort.restartRuns
  let s2 := (((s1.restartSlot 0).restartSlot 1).restartSlot 2).restartSlot 3
  let s3 := (s2.modStock StockUnit.restart).restartSharing
  { s3 with job := ⟨[], Walker.blank⟩, bus := .restarted, lines := s3.lines.restart }

end Sys2Proof.Machine
end

