-- ==== Sys2Proof/Machine/ExecPort.lean ====
section
/-! DEFINITION. Meanings of the Command Port's own rows: NOP to CLEAR ALARM MASK, the frames it does not
carry out, and RESTART. -/

namespace Sys2Proof.Machine

/-- NOP (R182): a frame of the right form leaves the buffer and the snapshot as they are. -/
def execNop (p : List Byte) (s : State) : Host.Outcome State Fault Refusal :=
  match s.portCheck .nop p with
  | some status => done (s.shiftOut.answer (refusal status))
  | none => done s.shiftOut

/-- STATUS (R187). -/
def execStatus (p : List Byte) (s : State) : Host.Outcome State Fault Refusal :=
  s.runCommand .status p fun s => (s, ⟨.ok, s.statusBytes⟩)

/-- RESET (R192): a frame of the right form restarts the part; the start response answers it. -/
def execReset (p : List Byte) (s : State) : Host.Outcome State Fault Refusal :=
  match s.portCheck .reset p with
  | some status => done (s.shiftOut.answer (refusal status))
  | none => done s.shiftOut.restart

/-- Steps 1 to 4 of R185 for settings that passed their checks, and the first evaluation of the WANT
conditions. -/
def State.takeSettings (s : State) (c : Settings) : State :=
  let s1 := s.modPort fun p => { p with settings := some c }
  let s2 := if s1.acct.exhaustedMark then (s1.setMode .exhausted).raise .exhausted else s1.evalContact
  ((s2.raiseIf (decide (s2.acct.avail < c.lowWater)) .lowCredit).enterJoining true).evalWant

/-- CONFIGURE's checks (R184) and steps (R185). -/
def configureBody (p : List Byte) (s : State) : State × Response :=
  let c := settingsOfPayload p
  if s.configured then (s, refusal .alreadyConfigured)
  else if !c.ok || decide (c.ceiling < s.acct.ceilingSum) then (s, refusal .badConfig)
  else
    let t := s.takeSettings c
    (t, ⟨.ok, byte t.acct.mode.code ++ byte t.bus.state.code⟩)

/-- CONFIGURE (R184, R185). -/
def execConfigure (p : List Byte) (s : State) : Host.Outcome State Fault Refusal :=
  s.runCommand .configure p (configureBody p)

/-- READ LINES (R187). -/
def execReadLines (p : List Byte) (s : State) : Host.Outcome State Fault Refusal :=
  s.runCommand .readLines p fun s => (s, ⟨.ok, s.linesBytes⟩)

/-- READ REGISTERS (R20). -/
def execReadRegisters (p : List Byte) (s : State) : Host.Outcome State Fault Refusal :=
  s.runCommand .readRegisters p fun s => (s, ⟨.ok, s.registersBytes⟩)

/-- The state with the protection state set (R188). -/
def State.setProtection (s : State) (on : Bool) : State := s.modPort fun p => { p with protection := on }

/-- PROTECT OFF (R188). -/
def execProtectOff (p : List Byte) (s : State) : Host.Outcome State Fault Refusal :=
  s.runCommand .protectOff p fun s =>
    if s.lines.service.settled && s.lines.service.level then (s.setProtection false, okResponse)
    else (s, refusal .noService)

/-- PROTECT ON (R188). -/
def execProtectOn (p : List Byte) (s : State) : Host.Outcome State Fault Refusal :=
  s.runCommand .protectOn p fun s => (s.setProtection true, okResponse)

/-- READ ALARMS (R189). -/
def execReadAlarms (p : List Byte) (s : State) : Host.Outcome State Fault Refusal :=
  s.runCommand .readAlarms p fun s =>
    (s, ⟨.ok, beBytes 4 s.port.alarms.toNat ++ beBytes 4 s.port.mask.toNat⟩)

/-- The 32-bit word an alarm command carries. -/
def wordOfPayload (p : List Byte) : BitVec 32 := BitVec.ofNat 32 (field p 0 4)

/-- CLEAR ALARMS (R190): the response carries the word as it stood just before. -/
def execClearAlarms (p : List Byte) (s : State) : Host.Outcome State Fault Refusal :=
  s.runCommand .clearAlarms p fun s =>
    (s.modPort fun u => { u with alarms := u.alarms &&& ~~~(wordOfPayload p &&& alarmBits) },
      ⟨.ok, beBytes 4 s.port.alarms.toNat⟩)

/-- SET ALARM MASK (R191). -/
def execSetAlarmMask (p : List Byte) (s : State) : Host.Outcome State Fault Refusal :=
  s.runCommand .setAlarmMask p fun s =>
    (s.modPort fun u => { u with mask := u.mask ||| (wordOfPayload p &&& alarmBits) }, okResponse)

/-- CLEAR ALARM MASK (R191). -/
def execClearAlarmMask (p : List Byte) (s : State) : Host.Outcome State Fault Refusal :=
  s.runCommand .clearAlarmMask p fun s =>
    (s.modPort fun u => { u with mask := u.mask &&& ~~~(wordOfPayload p &&& alarmBits) }, okResponse)

/-! ## Frames the port does not carry out -/

/-- A frame with a code that is not in the command table (R181, checks 1 and 2). -/
def execBadCommand (_code : Byte) (p : List Byte) (s : State) : Host.Outcome State Fault Refusal :=
  done (s.shiftOut.answer (refusal (if 60 < p.length then .badLength else .badCommand)))

/-- A frame cut short or with L above 60 (R181, check 1). -/
def execShortFrame (_bytes : List Byte) (s : State) : Host.Outcome State Fault Refusal :=
  done (s.shiftOut.answer (refusal .badLength))

/-- A transaction begun while a command is being carried out: FF in every byte, and nothing else
(R181). -/
def execTransactionWhileBusy (_bytes : List Byte) (s : State) : Host.Outcome State Fault Refusal :=
  done (s.modPort fun p => { p with spiOut := .busy })

/-- Power-on or RESET_N low (R192). -/
def execRestart (s : State) : Host.Outcome State Fault Refusal := done s.restart

end Sys2Proof.Machine
end

