-- ==== Sys2Proof/Machine/ExecRates.lean ====
section
/-! DEFINITION. Meanings of the Rate Unit's rows: SET DAY to READ RATES. -/

namespace Sys2Proof.Machine

/-- A day advance to a greater day by SET DAY: the update, the contact evaluation, RATES_SWAPPED, and
what the neighbours do after a change of mode (R61, R175, R178). -/
def State.advanceBySetDay (s : State) (day : Nat) : State :=
  (((s.dayAdvance day).evalContact).raiseIf (s.rates.swapDue day) .ratesSwapped).afterMode s.acct.mode

/-- SET DAY (R60). The response carries the day and the effective day, on BAD_DAY too (assumption log
11). -/
def setDayBody (p : List Byte) (s : State) : State × Response :=
  let day := field p 0 2
  if day < s.rates.day then (s, ⟨.badDay, s.dayBytes⟩)
  else if day = s.rates.day then (s, ⟨.ok, s.dayBytes⟩)
  else
    let t := s.advanceBySetDay day
    (t, ⟨.ok, t.dayBytes⟩)

/-- SET DAY (R60). -/
def execSetDay (p : List Byte) (s : State) : Host.Outcome State Fault Refusal :=
  s.runCommand .setDay p (setDayBody p)

/-- The state with a pending entry written (R65). -/
def State.setPending (s : State) (code : Nat) (e : Option RateEntry) : State :=
  { s with rates := { s.rates with pending := s.rates.pending.setIfInBounds code e } }

/-- WRITE PENDING RATE (R65). -/
def writePendingRateBody (p : List Byte) (s : State) : State × Response :=
  let code := field p 0 1
  let present := field p 1 1
  if 31 < code then (s, refusal .badArgument)
  else if present = 0 then (s.setPending code none, okResponse)
  else if present = 1 ∧ (rateOfPayload p).ok then (s.setPending code (some (rateOfPayload p)), okResponse)
  else (s, refusal .badArgument)

/-- WRITE PENDING RATE (R65). -/
def execWritePendingRate (p : List Byte) (s : State) : Host.Outcome State Fault Refusal :=
  s.runCommand .writePendingRate p (writePendingRateBody p)

/-- SET EFFECTIVE DAY (R66). -/
def setEffectiveDayBody (p : List Byte) (s : State) : State × Response :=
  if field p 0 2 ≤ s.rates.day then (s, refusal .badDay)
  else ({ s with rates := { s.rates with effectiveDay := some (field p 0 2) } }, okResponse)

/-- SET EFFECTIVE DAY (R66). -/
def execSetEffectiveDay (p : List Byte) (s : State) : Host.Outcome State Fault Refusal :=
  s.runCommand .setEffectiveDay p (setEffectiveDayBody p)

/-- CANCEL PENDING (R67). -/
def execCancelPending (p : List Byte) (s : State) : Host.Outcome State Fault Refusal :=
  s.runCommand .cancelPending p fun s =>
    ({ s with rates := { s.rates with pending := Vector.replicate 32 none, effectiveDay := none } },
      okResponse)

/-- READ RATES (R69). -/
def readRatesBody (p : List Byte) (s : State) : State × Response :=
  if 1 < field p 0 1 ∨ 31 < field p 1 1 then (s, refusal .badArgument)
  else (s, ⟨.ok, s.ratesBytes (field p 0 1) (field p 1 1)⟩)

/-- READ RATES (R69). -/
def execReadRates (p : List Byte) (s : State) : Host.Outcome State Fault Refusal :=
  s.runCommand .readRates p (readRatesBody p)

end Sys2Proof.Machine
end

