-- ==== Sys2Proof/Machine/ExecRefill.lean ====
section
/-! DEFINITION. The meaning of the Refill Check's row: APPLY REFILL. -/

namespace Sys2Proof.Machine

/-- Checks 2 to 7 of R170 on a record whose check bytes are `sealed`; check 1 is made at the port. -/
def State.refillCheck (s : State) (r : RefillRecord) (sealed : List Byte) : RefillOutcome :=
  if r.serial ≠ s.refill.serial then .wrongStation
  else if Config.checkCode s.refill.secret sealed ≠ r.check then .badCheck
  else if r.number ≤ s.refill.lastNumber then .alreadyApplied
  else if s.refill.lastNumber + 1 < r.number then .gap
  else if 0 < r.amount ∧ s.acct.mode = .exhausted then .exhausted
  else if s.room < r.amount then .overCeiling
  else .applied

/-- The one update of an applied record (R172). -/
def State.refillUpdate (s : State) (r : RefillRecord) : State :=
  let s1 := s.post (.refill r.amount)
  let s2 : State := { s1 with refill := { s1.refill with lastNumber := r.number } }
  let s3 := if s.rates.day < r.bankDay then s2.dayAdvance r.bankDay else s2
  { s3 with refill := { s3.refill with lastContact := s3.rates.day } }

/-- Whether an applied record carries the swap (R62, R68). -/
def State.refillSwaps (s : State) (r : RefillRecord) : Bool :=
  decide (s.rates.day < r.bankDay) && s.rates.swapDue r.bankDay

/-- An applied record up to its receipt: the update, the contact evaluation, the alarms (R172, R173). -/
def State.refillApplied (s : State) (r : RefillRecord) : State :=
  (((s.refillUpdate r).evalContact).raiseIf (s.refillSwaps r) .ratesSwapped).raise .refillDone

/-- What the neighbours do after an applied record (R173, R178). -/
def State.refillNeighbours (s : State) (old : Mode) (amount : Nat) : State :=
  if s.acct.mode = old ∧ 0 < amount then s.afterAvail else s.afterMode old

/-- APPLY REFILL once configured (R169, R170, R172 to R174). -/
def applyRefillBody (p : List Byte) (s : State) : State × Response :=
  let r := refillOfPayload p
  match s.refillCheck r (p.take 12) with
  | .applied =>
    let t := s.refillApplied r
    (t.refillNeighbours s.acct.mode r.amount, ⟨.ok, t.receiptBytes r.number .applied⟩)
  | outcome => (s, ⟨.ok, s.receiptBytes r.number outcome⟩)

/-- APPLY REFILL (R169): before configuration a receipt with outcome NOT_CONFIGURED (R181). -/
def execApplyRefill (p : List Byte) (s : State) : Host.Outcome State Fault Refusal :=
  match s.portCheck .applyRefill p with
  | some .notConfigured =>
    done (s.shiftOut.answer
      ⟨.notConfigured, s.receiptBytes (refillOfPayload p).number .notConfigured⟩)
  | _ => s.runCommand .applyRefill p (applyRefillBody p)

end Sys2Proof.Machine
end

