-- ==== Sys2Proof/Machine/ExecSharing.lean ====
section
/-! DEFINITION. Meanings of the Sharing Unit's commands and timers. -/

namespace Sys2Proof.Machine

/-- REQUEST CREDIT (R153). -/
def requestCreditBody (p : List Byte) (s : State) : State × Response :=
  let a := field p 0 3
  if a < 100 then (s, refusal .badArgument)
  else if s.share.request.isSome then (s, refusal .busy)
  else if s.acct.mode = .exhausted then (s.raise .wantFailed, okResponse)
  else ((s.modShare fun u => { u with request := some a }).evalWant, okResponse)

/-- REQUEST CREDIT (R153). -/
def execRequestCredit (p : List Byte) (s : State) : Host.Outcome State Fault Refusal :=
  s.runCommand .requestCredit p (requestCreditBody p)

/-- READ TRANSFERS (R167). -/
def execReadTransfers (p : List Byte) (s : State) : Host.Outcome State Fault Refusal :=
  s.runCommand .readTransfers p fun s => (s, ⟨.ok, s.transfersBytes⟩)

/-- The written-off total raised by an amount (R151); past its range a free value, assumption log 7. -/
def writtenOffTotal (total a : Nat) : Nat :=
  if total + a ≤ totalMax then total + a else Config.writtenOffPastRange total a % (totalMax + 1)

/-- The update of a discard (R13, R165). -/
def State.discard (s : State) (t : Transfer) : State :=
  ((s.post (.discarded t.amount)).modShare fun u =>
    { u with writtenOff := writtenOffTotal u.writtenOff t.amount }).dropUnresolved t.station t.wantNo
    t.pledgeNo

/-- DISCARD UNRESOLVED (R165). -/
def discardUnresolvedBody (p : List Byte) (s : State) : State × Response :=
  let giver := field p 0 1
  if giver = 0 ∨ 30 < giver then (s, refusal .badArgument)
  else
    match s.unresolvedMatch giver (field p 1 2) (field p 3 2) with
    | none => (s, refusal .noEntry)
    | some t => ((s.discard t).evalWant, ⟨.ok, beBytes 6 (s.discard t).share.writtenOff⟩)

/-- DISCARD UNRESOLVED (R165). -/
def execDiscardUnresolved (p : List Byte) (s : State) : Host.Outcome State Fault Refusal :=
  s.runCommand .discardUnresolved p (discardUnresolvedBody p)

/-! ## Timers -/

/-- The want window runs out with no pledge taken (R157). -/
def State.wantWindowExpiry (s : State) : State :=
  if s.share.wantWindow.isSome then
    match s.share.want with
    | none => s.modShare fun u => { u with wantWindow := none }
    | some w =>
      if w.taken.isSome then s.modShare fun u => { u with wantWindow := none }
      else (s.closeWant.raiseIf w.forRequest .wantFailed).evalStanding
  else s

/-- WANT_WINDOW_EXPIRY (R157). -/
def execWantWindowExpiry (s : State) : Host.Outcome State Fault Refusal := done s.wantWindowExpiry

/-- SETTLE_TIMER_EXPIRY (R163, R164). -/
def execSettleTimerExpiry (s : State) : Host.Outcome State Fault Refusal :=
  done (if s.share.settleTimer.isSome then s.settleExpired else s)

/-- The pledge timer of an OPEN entry runs out (R160). -/
def State.pledgeExpiry (s : State) (requester wantNo : Nat) : State :=
  match s.openOffer requester wantNo with
  | none => s
  | some o => s.returnPledge requester wantNo o

/-- PLEDGE_TIMER_EXPIRY (R160). -/
def execPledgeTimerExpiry (requester : BitVec 5) (wantNo : BitVec 16) (s : State) :
    Host.Outcome State Fault Refusal :=
  done (s.pledgeExpiry requester.toNat wantNo.toNat)

/-- BACKUP_DELAY_EXPIRY (R159). -/
def execBackupDelayExpiry (requester : BitVec 5) (wantNo : BitVec 16) (s : State) :
    Host.Outcome State Fault Refusal :=
  done (s.backupExpired requester.toNat wantNo.toNat)

/-- The retry interval runs out (R153, R154). -/
def State.retryExpiry (s : State) : State :=
  if s.share.retry.isSome then (s.modShare fun u => { u with retry := none }).evalWant else s

/-- RETRY_INTERVAL_EXPIRY (R153). -/
def execRetryIntervalExpiry (s : State) : Host.Outcome State Fault Refusal := done s.retryExpiry

end Sys2Proof.Machine
end

