-- ==== Sys2Proof/Machine/ExecSlots.lean ====
section
/-! DEFINITION. Meanings of the Slot Unit's rows: OPEN SLOT, CLOSE SLOT, READ SLOT, BIND FEEDER. -/

namespace Sys2Proof.Machine

/-- A slot record opened on a grant (R42). -/
def Slot.openOn (sl : Slot) (grant level : Nat) (g : Grant) : Slot :=
  { sl with
    state := .opened, grant := grant, level := level, kind := g.kind, effective := g.effective
    spentAtOpen := g.spent, printDelta := 0, stockDelta := 0, imprints := 0, stamps := 0
    lateIssues := 0, closeReason := .none, clampActed := false }

/-- The accepted open (R30, R42); setting the accessed flag of grant 0 changes nothing (R23). -/
def State.openSlot (s : State) (i g level : Nat) : State :=
  (s.setSlot i ((s.slot i).openOn g level (s.grant g))).setGrant g { s.grant g with accessed := true }

/-- The checks of R41. -/
def State.openSlotCheck (s : State) (i g level : Nat) : Option Status :=
  if 3 < i ∨ 63 < g ∨ 3 < level then some .badArgument
  else if (s.slot i).state ≠ .idle then some .slotOpen
  else if g = 0 then none
  else if !(s.grant g).present then some .grantAbsent
  else if (s.grant g).level < level then some .level
  else if (s.slotHolding g).isSome then some .grantInUse
  else none

/-- OPEN SLOT (R41, R42). -/
def openSlotBody (p : List Byte) (s : State) : State × Response :=
  let i := field p 0 1
  match s.openSlotCheck i (field p 1 1) (field p 2 1) with
  | some status => (s, refusal status)
  | none =>
    let t := s.openSlot i (field p 1 1) (field p 2 1)
    (t, ⟨.ok, beBytes 4 (t.slot i).headroom⟩)

/-- OPEN SLOT (R41). -/
def execOpenSlot (p : List Byte) (s : State) : Host.Outcome State Fault Refusal :=
  s.runCommand .openSlot p (openSlotBody p)

/-- The runs of a slot abandoned, and the slot closed now or at the outcome of its imprint in flight
(R49; assumption log 16). -/
def State.abandonSlot (s : State) (i : Nat) : State :=
  let ids := (s.runs.queue.filter fun r => r.slot == i).map (·.id)
  let s1 := s.modSlot i fun sl => { sl with state := .closing, closeReason := .abandon }
  let s2 := (State.abandonRuns ids s1).considerStart
  if (s2.slot i).state = .closing ∧ s2.runsOfSlot i = 0 then s2.closeSlot i .abandon else s2

/-- CLOSE SLOT (R48, R49). -/
def closeSlotBody (p : List Byte) (s : State) : State × Response :=
  let i := field p 0 1
  let abandon := field p 1 1
  if 3 < i ∨ 1 < abandon then (s, refusal .badArgument)
  else if (s.slot i).state = .idle then (s, refusal .slotIdle)
  else if (s.slot i).state = .closing ∧ abandon = 0 then (s, refusal .slotClosing)
  else if (s.slot i).state = .opened ∧ s.runsOfSlot i ≠ 0 ∧ abandon = 0 then (s, refusal .slotBusy)
  else
    let t :=
      if (s.slot i).state = .opened ∧ s.runsOfSlot i = 0 then s.closeSlot i .close
      else s.abandonSlot i
    (t, ⟨.ok, (t.slot i).closeBytes⟩)

/-- CLOSE SLOT (R48). -/
def execCloseSlot (p : List Byte) (s : State) : Host.Outcome State Fault Refusal :=
  s.runCommand .closeSlot p (closeSlotBody p)

/-- READ SLOT (R58). -/
def readSlotBody (p : List Byte) (s : State) : State × Response :=
  if 3 < field p 0 1 then (s, refusal .badArgument)
  else (s, ⟨.ok, s.slotBytes (field p 0 1)⟩)

/-- READ SLOT (R58). -/
def execReadSlot (p : List Byte) (s : State) : Host.Outcome State Fault Refusal :=
  s.runCommand .readSlot p (readSlotBody p)

/-- A feeder bound to no slot (R54). -/
def State.unbind (s : State) (f : Feeder) : State :=
  { s with slots := s.slots.map fun sl => sl.setBound f false }

/-- A feeder bound to slot i and to no other (R54). -/
def State.bind (s : State) (f : Feeder) (i : Nat) : State :=
  (s.unbind f).modSlot i fun sl => sl.setBound f true

/-- BIND FEEDER (R54). -/
def bindFeederBody (p : List Byte) (s : State) : State × Response :=
  let i := field p 1 1
  match feederOf (field p 0 1) with
  | none => (s, refusal .badArgument)
  | some f =>
    if i = 255 then (s.unbind f, okResponse)
    else if 3 < i then (s, refusal .badArgument)
    else
      match (s.slot i).state with
      | .idle => (s, refusal .slotIdle)
      | .closing => (s, refusal .slotClosing)
      | .opened => (s.bind f i, okResponse)

/-- BIND FEEDER (R54). -/
def execBindFeeder (p : List Byte) (s : State) : Host.Outcome State Fault Refusal :=
  s.runCommand .bindFeeder p (bindFeederBody p)

end Sys2Proof.Machine
end

