-- ==== Sys2Proof/Machine/Dispatch.lean ====
section
/-! DEFINITION. The meaning of every row: one arm per constructor of Instr, in the table's order. -/

namespace Sys2Proof.Machine

/-- The effect of a command on everything but the queue. -/
def exec (i : Instr) (s : State) : Host.Outcome State Fault Refusal :=
  match i with
  | .nop payload => Sys2Proof.Machine.execNop payload s
  | .status payload => Sys2Proof.Machine.execStatus payload s
  | .reset payload => Sys2Proof.Machine.execReset payload s
  | .configure payload => Sys2Proof.Machine.execConfigure payload s
  | .readLines payload => Sys2Proof.Machine.execReadLines payload s
  | .readRegisters payload => Sys2Proof.Machine.execReadRegisters payload s
  | .protectOff payload => Sys2Proof.Machine.execProtectOff payload s
  | .protectOn payload => Sys2Proof.Machine.execProtectOn payload s
  | .readAlarms payload => Sys2Proof.Machine.execReadAlarms payload s
  | .clearAlarms payload => Sys2Proof.Machine.execClearAlarms payload s
  | .setAlarmMask payload => Sys2Proof.Machine.execSetAlarmMask payload s
  | .clearAlarmMask payload => Sys2Proof.Machine.execClearAlarmMask payload s
  | .setDay payload => Sys2Proof.Machine.execSetDay payload s
  | .writePendingRate payload => Sys2Proof.Machine.execWritePendingRate payload s
  | .setEffectiveDay payload => Sys2Proof.Machine.execSetEffectiveDay payload s
  | .cancelPending payload => Sys2Proof.Machine.execCancelPending payload s
  | .readRates payload => Sys2Proof.Machine.execReadRates payload s
  | .writeGrant payload => Sys2Proof.Machine.execWriteGrant payload s
  | .readGrant payload => Sys2Proof.Machine.execReadGrant payload s
  | .closePeriod payload => Sys2Proof.Machine.execClosePeriod payload s
  | .openSlot payload => Sys2Proof.Machine.execOpenSlot payload s
  | .closeSlot payload => Sys2Proof.Machine.execCloseSlot payload s
  | .readSlot payload => Sys2Proof.Machine.execReadSlot payload s
  | .bindFeeder payload => Sys2Proof.Machine.execBindFeeder payload s
  | .startRun payload => Sys2Proof.Machine.execStartRun payload s
  | .stopRun payload => Sys2Proof.Machine.execStopRun payload s
  | .resumeRun payload => Sys2Proof.Machine.execResumeRun payload s
  | .readQueue payload => Sys2Proof.Machine.execReadQueue payload s
  | .readFinished payload => Sys2Proof.Machine.execReadFinished payload s
  | .writeJob payload => Sys2Proof.Machine.execWriteJob payload s
  | .readJob payload => Sys2Proof.Machine.execReadJob payload s
  | .startJob payload => Sys2Proof.Machine.execStartJob payload s
  | .resumeJob payload => Sys2Proof.Machine.execResumeJob payload s
  | .haltJob payload => Sys2Proof.Machine.execHaltJob payload s
  | .readWalker payload => Sys2Proof.Machine.execReadWalker payload s
  | .mountReel payload => Sys2Proof.Machine.execMountReel payload s
  | .unmountReel payload => Sys2Proof.Machine.execUnmountReel payload s
  | .readStock payload => Sys2Proof.Machine.execReadStock payload s
  | .readBus payload => Sys2Proof.Machine.execReadBus payload s
  | .readPeers payload => Sys2Proof.Machine.execReadPeers payload s
  | .busRestart payload => Sys2Proof.Machine.execBusRestart payload s
  | .requestCredit payload => Sys2Proof.Machine.execRequestCredit payload s
  | .readTransfers payload => Sys2Proof.Machine.execReadTransfers payload s
  | .discardUnresolved payload => Sys2Proof.Machine.execDiscardUnresolved payload s
  | .applyRefill payload => Sys2Proof.Machine.execApplyRefill payload s
  | .badCommand code payload => Sys2Proof.Machine.execBadCommand code payload s
  | .shortFrame bytes => Sys2Proof.Machine.execShortFrame bytes s
  | .transactionWhileBusy bytes => Sys2Proof.Machine.execTransactionWhileBusy bytes s
  | .restart => Sys2Proof.Machine.execRestart s
  | .doneRise => Sys2Proof.Machine.execDoneRise s
  | .faultRise => Sys2Proof.Machine.execFaultRise s
  | .mechanismTimerExpiry => Sys2Proof.Machine.execMechanismTimerExpiry s
  | .imprintSendingEnd => Sys2Proof.Machine.execImprintSendingEnd s
  | .issueRise feeder => Sys2Proof.Machine.execIssueRise feeder s
  | .reelLowRise feeder => Sys2Proof.Machine.execReelLowRise feeder s
  | .serviceFall => Sys2Proof.Machine.execServiceFall s
  | .frameIgnored frame => Sys2Proof.Machine.execFrameIgnored frame s
  | .duplicateStation frame => Sys2Proof.Machine.execDuplicateStation frame s
  | .standing sender surplus day flags => Sys2Proof.Machine.execStanding sender surplus day flags s
  | .want sender wantNo amount => Sys2Proof.Machine.execWant sender wantNo amount s
  | .pledge sender dest wantNo pledgeNo amount => Sys2Proof.Machine.execPledge sender dest wantNo pledgeNo amount s
  | .take sender dest wantNo pledgeNo amount => Sys2Proof.Machine.execTake sender dest wantNo pledgeNo amount s
  | .ask sender dest wantNo pledgeNo => Sys2Proof.Machine.execAsk sender dest wantNo pledgeNo s
  | .waive sender dest wantNo pledgeNo => Sys2Proof.Machine.execWaive sender dest wantNo pledgeNo s
  | .settled sender dest wantNo pledgeNo amount => Sys2Proof.Machine.execSettled sender dest wantNo pledgeNo amount s
  | .received sender dest wantNo pledgeNo => Sys2Proof.Machine.execReceived sender dest wantNo pledgeNo s
  | .void sender dest wantNo pledgeNo => Sys2Proof.Machine.execVoid sender dest wantNo pledgeNo s
  | .reelNoteMounted sender reelId remaining denomination => Sys2Proof.Machine.execReelNoteMounted sender reelId remaining denomination s
  | .reelNoteReleased sender reelId remaining denomination => Sys2Proof.Machine.execReelNoteReleased sender reelId remaining denomination s
  | .reelNoteEmpty sender reelId remaining denomination => Sys2Proof.Machine.execReelNoteEmpty sender reelId remaining denomination s
  | .reelAsk sender reelId => Sys2Proof.Machine.execReelAsk sender reelId s
  | .frameSent => Sys2Proof.Machine.execFrameSent s
  | .frameNotSent => Sys2Proof.Machine.execFrameNotSent s
  | .busOff => Sys2Proof.Machine.execBusOff s
  | .busControllerReturn => Sys2Proof.Machine.execBusControllerReturn s
  | .standingTimerExpiry => Sys2Proof.Machine.execStandingTimerExpiry s
  | .peerAgeing station => Sys2Proof.Machine.execPeerAgeing station s
  | .wantWindowExpiry => Sys2Proof.Machine.execWantWindowExpiry s
  | .settleTimerExpiry => Sys2Proof.Machine.execSettleTimerExpiry s
  | .pledgeTimerExpiry requester wantNo => Sys2Proof.Machine.execPledgeTimerExpiry requester wantNo s
  | .backupDelayExpiry requester wantNo => Sys2Proof.Machine.execBackupDelayExpiry requester wantNo s
  | .retryIntervalExpiry => Sys2Proof.Machine.execRetryIntervalExpiry s
  | .askWindowExpiry reelId => Sys2Proof.Machine.execAskWindowExpiry reelId s
  | .lineSettled line level => Sys2Proof.Machine.execLineSettled line level s
  | .qualifiedLevelChange line level => Sys2Proof.Machine.execQualifiedLevelChange line level s

end Sys2Proof.Machine
end

