-- ==== Sys2Proof/Machine/Time.lean ====
section
/-! DEFINITION. The 1 ms time base (00_scope.md, Time), which moves on an empty queue: the sampling of the
eight lines (R186), the running of timers and ages, and the expiry that is due (assumption logs 2 and 3). -/

namespace Sys2Proof.Machine

/-! ## Sampling (R186) -/

/-- The Q of a line. -/
def State.qOf (s : State) : Line → Nat
  | .issueA | .issueB | .reelLowA | .reelLowB | .service => s.qSensor
  | .done | .fault | .clean => s.qMech

/-- A sample at which a line takes a level: it is settled there, and the sample counts at once when it
disagrees with that level. -/
def Qualifier.takes (q : Qualifier) (level : Bool) : Qualifier :=
  { q with level := level, settled := true, count := if q.pin = level then 0 else 1, last := q.pin }

/-- One sample of a line. A count that already meets Q, as after a CONFIGURE with a smaller Q, is not
raised first: the line takes the level of the samples counted, whatever the new one (assumption log 24),
and a new one that disagrees is counted from there, for Q = 1 too (assumption log 50). -/
def Qualifier.sample (q : Qualifier) (n : Nat) : Qualifier :=
  if q.settled then
    if n ≤ q.count then q.takes (!q.level)
    else if q.pin = q.level then { q with count := 0, last := q.pin }
    else if n ≤ q.count + 1 then q.takes q.pin
    else { q with count := q.count + 1, last := q.pin }
  else
    let count := if q.pin = q.last then q.count + 1 else 1
    if n ≤ q.count then q.takes q.last
    else if n ≤ count then q.takes q.pin
    else { q with count := count, last := q.pin }

/-- The eight lines after one sample. -/
def State.sampled (s : State) : LineBank where
  issueA := s.lines.issueA.sample (s.qOf .issueA)
  issueB := s.lines.issueB.sample (s.qOf .issueB)
  reelLowA := s.lines.reelLowA.sample (s.qOf .reelLowA)
  reelLowB := s.lines.reelLowB.sample (s.qOf .reelLowB)
  service := s.lines.service.sample (s.qOf .service)
  done := s.lines.done.sample (s.qOf .done)
  fault := s.lines.fault.sample (s.qOf .fault)
  clean := s.lines.clean.sample (s.qOf .clean)

/-- The row that owns an edge of a line, if one does. -/
def edgeEvent (l : Line) (level : Bool) : Option Instr :=
  match l, level with
  | .issueA, true => some (.issueRise .a)
  | .issueB, true => some (.issueRise .b)
  | .reelLowA, true => some (.reelLowRise .a)
  | .reelLowB, true => some (.reelLowRise .b)
  | .service, false => some .serviceFall
  | .done, true => some .doneRise
  | .fault, true => some .faultRise
  | _, _ => none

/-- The edges of one sample for their owners, once every level is up to date, in the order of R186. -/
def edgeEvents (before after : LineBank) : List Instr :=
  allLines.filterMap fun l =>
    if (before.get l).settled && (before.get l).level != (after.get l).level then
      edgeEvent l (after.get l).level
    else none

/-! ## Timers and ages -/

/-- A timer after 1 ms. -/
def ticked (t : Option Nat) : Option Nat := t.map (· - 1)

/-- The Run Controller's timers. -/
def RunUnit.tick (u : RunUnit) : RunUnit :=
  { u with sendTimer := ticked u.sendTimer, mechTimer := ticked u.mechTimer }

/-- The ask windows. -/
def StockUnit.tick (u : StockUnit) : StockUnit :=
  { u with table := u.table.map fun r => { r with askWindow := ticked r.askWindow } }

/-- The STANDING timer and the ages of the peers (R124). -/
def BusUnit.tick (b : BusUnit) : BusUnit :=
  { b with
    standingTimer := ticked b.standingTimer
    peers := b.peers.map fun p => { p with age := satAdd p.age 1 } }

/-- The Sharing Unit's timers and the ages of its pledge table. -/
def SharingUnit.tick (u : SharingUnit) : SharingUnit :=
  { u with
    wantWindow := ticked u.wantWindow, settleTimer := ticked u.settleTimer, retry := ticked u.retry
    pledges := u.pledges.map fun e => { e with age := e.age + 1 } }

/-- 1 ms of the time base. -/
def State.tick (s : State) : State :=
  { s with
    runs := s.runs.tick, stock := s.stock.tick, bus := s.bus.tick, share := s.share.tick
    lines := s.sampled, pending := s.pending ++ edgeEvents s.lines s.sampled }

/-! ## The expiry that is due -/

/-- An event when a timer has run out. -/
def dueWhen (t : Option Nat) (e : Instr) : Option Instr := if t = some 0 then some e else none

/-- The key of a station number and of a want number in an event. -/
def stationKey (n : Nat) : BitVec 5 := BitVec.ofNat 5 n
def wantKey (n : Nat) : BitVec 16 := BitVec.ofNat 16 n

/-- The pledge timer or backup delay of an entry that is due: 1,500 ms or 400 ms (R149). -/
def PledgeEntry.due (e : PledgeEntry) : Option Instr :=
  match e.offer with
  | some _ => if 1500 ≤ e.age then some (.pledgeTimerExpiry (stationKey e.requester) (wantKey e.wantNo)) else none
  | none => if 400 ≤ e.age then some (.backupDelayExpiry (stationKey e.requester) (wantKey e.wantNo)) else none

/-- The ask window of an entry that is due. -/
def Reel.due (r : Reel) : Option Instr :=
  if r.check = .asking then dueWhen r.askWindow (.askWindowExpiry (BitVec.ofNat 32 r.id)) else none

/-- The ageing of a peer that is due (R125). -/
def State.peerDue (s : State) (p : Peer) : Option Instr :=
  if p.liveness = .live ∧ 3 * s.intervalMs ≤ p.age then some (.peerAgeing (stationKey p.station))
  else none

/-- The first expiry that is due, in a fixed order (assumption log 3). -/
def State.dueEvent (s : State) : Option Instr :=
  (dueWhen s.runs.sendTimer .imprintSendingEnd).or <|
  (dueWhen s.runs.mechTimer .mechanismTimerExpiry).or <|
  (s.share.pledges.findSome? PledgeEntry.due).or <|
  (dueWhen s.share.wantWindow .wantWindowExpiry).or <|
  (dueWhen s.share.settleTimer .settleTimerExpiry).or <|
  (dueWhen s.share.retry .retryIntervalExpiry).or <|
  (s.stock.table.findSome? Reel.due).or <|
  (dueWhen s.bus.standingTimer .standingTimerExpiry).or <|
  s.bus.peers.findSome? s.peerDue

end Sys2Proof.Machine
end

