-- ==== Sys2Proof/Machine/Step.lean ====
section
/-! DEFINITION. One step: the command at the front of the queue or, on an empty queue, the time base. -/

namespace Sys2Proof.Machine

/-- One step. On an empty queue the expiry that is due is carried out, else 1 ms passes (assumption log
2). -/
def step (s : State) : Host.Outcome State Fault Refusal :=
  match s.pending with
  | c :: rest => exec c { s with pending := rest }
  | [] =>
    match s.dueEvent with
    | some c => exec c s
    | none => done s.tick

/-- The state with the command a table word spells put at the front of its queue; unchanged where the
word spells none. -/
def State.withFetchWord (s : State) (nbits w : Nat) : State :=
  match decodeTableWord nbits w with
  | some c => { s with pending := c :: s.pending }
  | none => s

end Sys2Proof.Machine
end

