-- ==== Sys2Proof/Machine/Transaction.lean ====
section
/-! DEFINITION. Transactions of the command port (R180, R181, R193): from the bits clocked in to the row
of the opcode table they are, and from the response to the bytes clocked out. -/

namespace Sys2Proof.Machine

/-! ## Clocked in -/

/-- The number that bits spell, most significant first. -/
def bitsByte (bits : List Bool) : Byte := BitVec.ofNat 8 (bits.foldl (fun n b => 2 * n + b.toNat) 0)

/-- The whole bytes of the bits clocked in, most significant bit first; the bits of a last byte left
incomplete are discarded (R180). -/
def wholeBytes : List Bool → List Byte
  | b7 :: b6 :: b5 :: b4 :: b3 :: b2 :: b1 :: b0 :: rest =>
    bitsByte [b7, b6, b5, b4, b3, b2, b1, b0] :: wholeBytes rest
  | _ => []

/-- The command of the table that a code names, with a payload (section "Commands"). -/
def commandOf (code : Nat) (p : List Byte) : Option Instr :=
  match code with
  | 0x00 => some (.nop p)
  | 0x01 => some (.status p)
  | 0x02 => some (.reset p)
  | 0x03 => some (.configure p)
  | 0x04 => some (.readLines p)
  | 0x05 => some (.readRegisters p)
  | 0x06 => some (.protectOff p)
  | 0x07 => some (.protectOn p)
  | 0x08 => some (.readAlarms p)
  | 0x09 => some (.clearAlarms p)
  | 0x0A => some (.setAlarmMask p)
  | 0x0B => some (.clearAlarmMask p)
  | 0x10 => some (.setDay p)
  | 0x11 => some (.writePendingRate p)
  | 0x12 => some (.setEffectiveDay p)
  | 0x13 => some (.cancelPending p)
  | 0x14 => some (.readRates p)
  | 0x18 => some (.writeGrant p)
  | 0x19 => some (.readGrant p)
  | 0x1A => some (.closePeriod p)
  | 0x20 => some (.openSlot p)
  | 0x21 => some (.closeSlot p)
  | 0x22 => some (.readSlot p)
  | 0x23 => some (.bindFeeder p)
  | 0x28 => some (.startRun p)
  | 0x29 => some (.stopRun p)
  | 0x2A => some (.resumeRun p)
  | 0x2B => some (.readQueue p)
  | 0x2C => some (.readFinished p)
  | 0x30 => some (.writeJob p)
  | 0x31 => some (.readJob p)
  | 0x32 => some (.startJob p)
  | 0x33 => some (.resumeJob p)
  | 0x34 => some (.haltJob p)
  | 0x35 => some (.readWalker p)
  | 0x38 => some (.mountReel p)
  | 0x39 => some (.unmountReel p)
  | 0x3A => some (.readStock p)
  | 0x40 => some (.readBus p)
  | 0x41 => some (.readPeers p)
  | 0x42 => some (.busRestart p)
  | 0x48 => some (.requestCredit p)
  | 0x49 => some (.readTransfers p)
  | 0x4A => some (.discardUnresolved p)
  | 0x50 => some (.applyRefill p)
  | _ => none

/-- The row that the bytes of one transaction are: code, payload length L, L payload bytes, then fill,
which is ignored (R180); a frame cut short and a code that is not in the table have rows of their own
(R181, checks 1 and 2). -/
def transactionRow (bytes : List Byte) : Instr :=
  match bytes with
  | code :: l :: rest =>
    if tooShort bytes then .shortFrame bytes
    else (commandOf code.toNat (rest.take l.toNat)).getD (.badCommand code (rest.take l.toNat))
  | _ => .shortFrame bytes

/-- A transaction that ends, begun while no command was being carried out: its command is the last of those
that wait (R180, R181). -/
def State.clockIn (s : State) (bits : List Bool) : State :=
  { s with pending := s.pending ++ [transactionRow (wholeBytes bits)] }

/-! ## Clocked out -/

/-- The bytes of a response: status, payload length M, payload (R180, R193). -/
def Response.frame (r : Response) : List Byte :=
  byte r.status.code ++ byte r.payload.length ++ r.payload

/-- The first n bytes of what a transaction shifts out: the response and then bytes 00, or FF in every
byte (R180, R181); before the first transaction SPI_OUT is not driven. -/
def ShiftOut.bytes (o : ShiftOut) (n : Nat) : List Byte :=
  match o with
  | .idle => []
  | .response r => (r.frame ++ List.replicate n 0).take n
  | .busy => List.replicate n 0xFF

end Sys2Proof.Machine
end

