-- ==== Sys2Proof/Safety.lean ====
section
/-! DEFINITION. What the statements speak of: the frames of an answer, the port's commands, the
conditions of R142, and the invariants that the laws of the spec name. -/

namespace Sys2Proof.Machine

/-! ## Answers -/

/-- The port after a command that was carried out: answered, the former response shifted out, no
snapshot kept (R180, R182, R183). -/
def State.portAfter (s : State) (r : Response) : PortUnit :=
  { s.port with response := r, spiOut := .response s.port.response, snapshot := none }

/-- Nothing but the response buffer, the bytes shifted out and the output pins differs: what a frame
leaves that is answered and not carried out (R181, R182). -/
def OnlyAnswered (s t : State) (r : Response) : Prop :=
  t = { s with
    port := { s.port with response := r, spiOut := .response s.port.response }, outs := t.outs }

/-- A refusal with a status. That its payload is empty is the model's choice (assumption log 10), and
that a snapshot of a read in parts survives it the model's reading of R183 (assumption log 12). -/
def Refused (s t : State) (status : Status) : Prop := OnlyAnswered s t ⟨status, []⟩

/-- A command that was carried out and changed nothing but the port's answer (a read). -/
def OnlyRead (s t : State) (payload : List Byte) : Prop :=
  t = { s with port := s.portAfter ⟨.ok, payload⟩, outs := t.outs }

/-- The port's commands of the command table with their rows and payloads. -/
def portCommand : Instr → Option (CommandRow × List Byte)
  | .nop p => some (.nop, p)
  | .status p => some (.status, p)
  | .reset p => some (.reset, p)
  | .configure p => some (.configure, p)
  | .readLines p => some (.readLines, p)
  | .readRegisters p => some (.readRegisters, p)
  | .protectOff p => some (.protectOff, p)
  | .protectOn p => some (.protectOn, p)
  | .readAlarms p => some (.readAlarms, p)
  | .clearAlarms p => some (.clearAlarms, p)
  | .setAlarmMask p => some (.setAlarmMask, p)
  | .clearAlarmMask p => some (.clearAlarmMask, p)
  | .setDay p => some (.setDay, p)
  | .writePendingRate p => some (.writePendingRate, p)
  | .setEffectiveDay p => some (.setEffectiveDay, p)
  | .cancelPending p => some (.cancelPending, p)
  | .readRates p => some (.readRates, p)
  | .writeGrant p => some (.writeGrant, p)
  | .readGrant p => some (.readGrant, p)
  | .closePeriod p => some (.closePeriod, p)
  | .openSlot p => some (.openSlot, p)
  | .closeSlot p => some (.closeSlot, p)
  | .readSlot p => some (.readSlot, p)
  | .bindFeeder p => some (.bindFeeder, p)
  | .startRun p => some (.startRun, p)
  | .stopRun p => some (.stopRun, p)
  | .resumeRun p => some (.resumeRun, p)
  | .readQueue p => some (.readQueue, p)
  | .readFinished p => some (.readFinished, p)
  | .writeJob p => some (.writeJob, p)
  | .readJob p => some (.readJob, p)
  | .startJob p => some (.startJob, p)
  | .resumeJob p => some (.resumeJob, p)
  | .haltJob p => some (.haltJob, p)
  | .readWalker p => some (.readWalker, p)
  | .mountReel p => some (.mountReel, p)
  | .unmountReel p => some (.unmountReel, p)
  | .readStock p => some (.readStock, p)
  | .readBus p => some (.readBus, p)
  | .readPeers p => some (.readPeers, p)
  | .busRestart p => some (.busRestart, p)
  | .requestCredit p => some (.requestCredit, p)
  | .readTransfers p => some (.readTransfers, p)
  | .discardUnresolved p => some (.discardUnresolved, p)
  | .applyRefill p => some (.applyRefill, p)
  | _ => none

/-- The commands that only read: none of them changes any state (R20, R36, R58, R69, R95, R96, R99,
R111, R127, R146, R167, R187, R189). -/
def readsOnly : Instr → Bool
  | .status _ | .readLines _ | .readRegisters _ | .readAlarms _ | .readRates _ | .readGrant _
  | .readSlot _ | .readQueue _ | .readFinished _ | .readJob _ | .readWalker _ | .readStock _
  | .readBus _ | .readPeers _ | .readTransfers _ => true
  | _ => false

/-- The command of one of the three reads in parts (R183). -/
def readCommand : PartsOf → List Byte → Instr
  | .queue => .readQueue
  | .peers => .readPeers
  | .stock => .readStock

/-- The whole answer of a read in parts. -/
def wholeAnswer (s : State) : PartsOf → List Byte
  | .queue => s.queueBytes
  | .peers => s.peersBytes
  | .stock => s.stockBytes

/-- Every value of a CONFIGURE payload in the range of R184. -/
def ConfigInRange (p : List Byte) : Prop :=
  (1 ≤ field p 0 1 ∧ field p 0 1 ≤ 30) ∧ (field p 1 1 = 125 ∨ field p 1 1 = 250) ∧
  (1 ≤ field p 2 4 ∧ field p 2 4 ≤ 999999999) ∧ field p 6 4 ≤ field p 2 4 ∧
  (field p 6 4 ≤ field p 10 4 ∧ field p 10 4 ≤ field p 2 4) ∧ field p 14 4 ≤ field p 2 4 ∧
  100 ≤ field p 18 3 ∧ (field p 21 1 = 0 ∨ (2 ≤ field p 21 1 ∧ field p 21 1 ≤ 30)) ∧
  (1 ≤ field p 22 1 ∧ field p 22 1 ≤ 120) ∧ (1 ≤ field p 23 1 ∧ field p 23 1 ≤ 15) ∧
  (1 ≤ field p 24 1 ∧ field p 24 1 ≤ 15)

/-! ## Frames and alarms -/

/-- Two port records differ at most in alarms of a list, which the second may have raised; none is
cleared. -/
def RaisedWithin (p q : PortUnit) (l : List Alarm) : Prop :=
  q = { p with alarms := q.alarms } ∧
  ∀ i < 32, q.alarms.getLsbD i = p.alarms.getLsbD i ∨
    (q.alarms.getLsbD i = true ∧ ∃ a ∈ l, a.bit = i)

/-- A frame stands in the transmit queue, loaded or waiting. -/
def Queued (s : State) (f : BusFrame) : Prop := ∃ e ∈ s.bus.tx, e.frame = f

/-- The frames of the transmit queue in their order, a STANDING left out. -/
def framesKept (s : State) : List BusFrame :=
  (s.bus.tx.map (·.frame)).filter fun f => f.code != 48

/-- Every frame in the transmit queue stays there, each in its place among the others, and a loaded one
stays loaded as it is (R120, R121); a STANDING that waits may carry new content. -/
def QueueKept (s t : State) : Prop :=
  (framesKept s).Sublist (framesKept t) ∧ ∀ e ∈ s.bus.tx, e.loaded = true → e ∈ t.bus.tx

/-- A frame other than a STANDING handed over: it stands in the queue, once if it stood there already,
or the queue held 16 frames and TX_OVERFLOW is up, or the station does not send; and the queue is kept
(R121). -/
def HandedOver (s t : State) (f : BusFrame) : Prop :=
  (s.busSends = true → s.bus.tx.length < 16 → Queued t f) ∧
  (s.busSends = true → Queued t f ∨ t.alarm .txOverflow = true) ∧
  (Queued s f → (framesKept t).count f = (framesKept s).count f) ∧ QueueKept s t

/-- The Sharing Unit has evaluated the WANT conditions of the state m (R154), and nothing else of it has
moved; of the Bus Interface only the queue, which is kept, and what a STANDING sets may have. -/
def WantsEvaluated (m t : State) : Prop :=
  t.share = m.evalWant.share ∧ QueueKept m t ∧
  t.bus = { m.bus with
    tx := t.bus.tx, standingTimer := t.bus.standingTimer
    announcedSurplus := t.bus.announcedSurplus, announcedFlags := t.bus.announcedFlags } ∧
  (m.busSends = false → t.bus = m.bus)

/-- What the neighbours do after a posting that changes AVAIL or a change of mode, m being the state with
that change alone made: the WANT conditions are evaluated, and a STANDING is put into the queue when
what the last one announced has changed (R123). -/
def NeighboursActed (m t : State) : Prop :=
  WantsEvaluated m t ∧
  (m.busSends = true → m.standingChanged = true →
    Queued t t.formStanding ∨ t.alarm .txOverflow = true)

/-- The alarms the neighbours may raise. -/
def neighbourAlarms : List Alarm := [.lowCredit, .txOverflow, .wantFailed]

/-! ## Lines -/

/-- The lines once a row reports a level of one of them (R186). A qualifier settled at that level already
stays; any other becomes settled there with nothing counted, its pin and last sample at the level: the
model's reading (assumption log 23). -/
def linesTaken (s : State) (l : Line) (level : Bool) : LineBank :=
  s.lines.set l
    (if (s.lines.get l).settled = true ∧ (s.lines.get l).level = level then s.lines.get l
    else ⟨level, true, 0, level, level⟩)

/-- A qualifier after one sample of its line (R186), for the line's Q. That a count which meets Q already
takes the level its samples had, whatever the new one, is the model's reading (assumption log 24). A new
sample that disagrees with the level taken is the first counted against it, for Q = 1 too (assumption log
50). -/
def sampledOnce (q : Qualifier) (n : Nat) : Qualifier :=
  let same := if q.pin = q.last then q.count + 1 else 1
  if q.settled = true then
    if n ≤ q.count then ⟨!q.level, true, if q.pin = q.level then 1 else 0, q.pin, q.pin⟩
    else if q.pin = q.level then ⟨q.level, true, 0, q.pin, q.pin⟩
    else if q.count + 1 < n then ⟨q.level, true, q.count + 1, q.pin, q.pin⟩
    else ⟨q.pin, true, 0, q.pin, q.pin⟩
  else
    if n ≤ q.count then ⟨q.last, true, if q.pin = q.last then 0 else 1, q.pin, q.pin⟩
    else if same < n then ⟨q.level, false, same, q.pin, q.pin⟩
    else ⟨q.pin, true, 0, q.pin, q.pin⟩

/-! ## Runs and job lines -/

/-- No run of the queue can start now (R81). -/
def NoStart (s : State) : Prop :=
  ∀ r ∈ s.runs.queue.head?, r.state = .queued →
    s.runs.inFlight.isSome = true ∨ s.acct.mode = .contactLocked ∨ s.acct.mode = .unconfigured

/-- A run appended now would have to wait (R79, R81). -/
def MustWait (s : State) : Prop :=
  s.runs.inFlight.isSome = true ∨ (∃ r ∈ s.runs.queue.head?, r.state ≠ .queued) ∨
    s.acct.mode = .contactLocked

/-- The checks of R83 pass for the next imprint of a run. -/
def MayAuthorise (s : State) (r : Run) : Prop :=
  (s.acct.mode = .active ∨ s.acct.mode = .contactDue) ∧ s.rates.day ≠ 0 ∧
  s.acct.used + r.latched ≤ 1099511627775 ∧ r.latched ≤ s.acct.avail ∧
  r.latched ≤ (s.slot r.slot).headroom

/-- An imprint of a run authorised (R84, R194): the posting, the slot's charge on the record `sl`, and the
in-flight imprint with its record being sent. -/
def Authorised (s t : State) (r : Run) (sl : Slot) : Prop :=
  t.acct = { s.acct with
    avail := s.acct.avail - r.latched, held := s.acct.held + r.latched
    imprintNo := (s.acct.imprintNo + 1) % 4294967296 } ∧
  t.slot r.slot = { sl with printDelta := sl.printDelta + r.latched, imprints := sl.imprints + 1 } ∧
  (∀ j < 4, j ≠ r.slot → t.slot j = s.slot j) ∧
  t.runs.inFlight = some ⟨r.id, (s.acct.imprintNo + 1) % 4294967296, r.latched, .sending⟩ ∧
  t.runs.sending =
    beBytes 1 (22 + r.endorsements.length) ++ beBytes 4 s.refill.serial.toNat ++
    beBytes 4 ((s.acct.imprintNo + 1) % 4294967296) ++ beBytes 2 s.rates.day ++
    beBytes 3 r.latched ++ beBytes 5 (s.acct.used + r.latched) ++
    beBytes 2 (s.grant (s.slot r.slot).grant).dept ++ beBytes 1 r.id ++
    beBytes 1 r.endorsements.length ++ r.endorsements.map (BitVec.ofNat 8) ∧
  t.runs.sendTimer.isSome = true

/-- A run has left the queue with a reason (R94, R95, R52): its finished-run record, the count, and its
slot, which closes when it is CLOSING and has no other run, its usage returned (R34). -/
def RunLeft (s t : State) (r : Run) (reason : EndReason) : Prop :=
  t.runs.queue = (s.runs.queue.filter fun q => q.id != r.id) ∧
  t.runs.finished =
    (if 8 ≤ s.runs.finished.length then s.runs.finished.drop 1 else s.runs.finished) ++
      [⟨r.id, r.source, r.slot, reason, r.latched, r.printed, r.refunded, r.spoiled⟩] ∧
  t.runs.endedCount = (s.runs.endedCount + 1) % 65536 ∧ t.alarm .runEnded = true ∧
  (∀ j < 4, j ≠ r.slot → t.slot j = s.slot j) ∧
  let sl := s.slot r.slot
  let gr := s.grant sl.grant
  let left := { sl with run := if sl.run = some r.id then none else sl.run }
  let clamp := sl.grant ≠ 0 ∧ gr.kind = .prepaid ∧ gr.amount < sl.printDelta + sl.stockDelta
  if sl.state = .closing ∧ ∀ q ∈ s.runs.queue, q.id ≠ r.id → q.slot ≠ r.slot then
    t.slot r.slot = { left with
      state := .idle, boundA := false, boundB := false, run := none, clampActed := decide clamp } ∧
    t.grants = (s.setGrant sl.grant (gr.takeUsage left)).grants ∧
    t.alarm .grantShort = (s.alarm .grantShort || decide clamp)
  else
    t.slot r.slot = left ∧ t.grants = s.grants ∧ t.alarm .grantShort = s.alarm .grantShort

/-- The walker takes no part in what a run does: it is not its run, and it does not wait for a place. -/
def WalkerApart (s : State) (r : Run) : Prop :=
  s.job.walker.run ≠ some r.id ∧ s.job.walker.state ≠ .waiting

/-- The check against the USED maximum is the first of R83 that fails (R18). -/
def OverUsed (s : State) (r : Run) : Prop :=
  (s.acct.mode = .active ∨ s.acct.mode = .contactDue) ∧ s.rates.day ≠ 0 ∧
  1099511627775 < s.acct.used + r.latched

/-- The reason of the first check of R83 that fails, outside UNCONFIGURED. -/
def authoriseEnd (s : State) (r : Run) : EndReason :=
  if s.acct.mode = .exhausted then .exhausted
  else if s.acct.mode = .contactLocked then .locked
  else if s.rates.day = 0 then .noDate
  else if 1099511627775 < s.acct.used + r.latched then .exhausted
  else if s.acct.avail < r.latched then .noCredit
  else .grantLimit

/-- The run r has left the queue of m for a reason and nothing else has moved: u is m with the run's
record, its slot and its grant as RunLeft has them. -/
def OnlyRunLeft (m u : State) (r : Run) (reason : EndReason) : Prop :=
  u = { m with
    runs := { m.runs with
      queue := u.runs.queue, finished := u.runs.finished, endedCount := u.runs.endedCount }
    grants := u.grants, slots := u.slots, port := u.port } ∧
  RunLeft m u r reason ∧ RaisedWithin m.port u.port [.runEnded, .grantShort]

/-- A run appended at the tail as QUEUED under the id that the counter gives (R77, R79). -/
def Appended (s t : State) (r : Run) : Prop :=
  t.runs = { s.runs with
    queue := s.runs.queue ++ [{ r with id := s.newRunId }]
    nextId := if 255 ≤ s.newRunId then 1 else s.newRunId + 1 } ∧
  (∀ q ∈ s.runs.queue, q.id ≠ s.newRunId) ∧
  ((∀ q ∈ s.runs.queue, q.id ≠ s.runs.nextId) → s.newRunId = s.runs.nextId)

/-- The append of the line copy c by the walker w (R106). -/
def LineAppended (s t : State) (w : Walker) (c : LineCopy) : Prop :=
  if (s.slot c.slot).state = .opened ∧ (s.slot c.slot).grant ≠ 0 then
    if s.runs.queue.length < 8 then
      t.job.walker = { w with state := .running, run := some s.newRunId } ∧
      Appended s t
        ⟨0, .jobLine w.lineAddress, c.slot, c.tariff, c.direct, c.weight, some c.count, c.allOrNone,
          c.autoClose, c.endorsements, 0, 0, 0, 0, [], .queued, none⟩
    else t.job.walker = { w with state := .waiting } ∧ t.runs = s.runs
  else
    t.job.walker =
      { w with state := .faulted, stopReason := .slotNotOpen, stopAddress := w.lineAddress } ∧
    t.runs = s.runs ∧ t.alarm .jobStopped = true

/-- The fetch of the line at an address by the walker w with the attributes given, and its append (R105,
R106). -/
def LineFetched (s t : State) (w : Walker) (address : Nat) (allOrNone autoClose : Bool) : Prop :=
  match parseLine s.job.memory address allOrNone autoClose with
  | none =>
    t.job.walker =
      { w with
        lineAddress := address, state := .faulted, stopReason := .badLine, stopAddress := address } ∧
    t.runs = s.runs ∧ t.alarm .jobStopped = true
  | some c =>
    LineAppended s t
      { w with
        lineAddress := address, copy := some c, nextAddress := c.linkNext
        latchedAllOrNone := c.linkAllOrNone, latchedAutoClose := c.linkAutoClose } c

/-- What the Job Walker does when the run r has ended for a reason, on the state v which it has left (R94
steps 5 and 6). After a halt the walker of r is IDLE (R110). After COMPLETE it acts on its line's link, a
next line being fetched and appended (R105 to R107); after NO_CREDIT it is HELD with what is left of the
count, and after any other reason FAULTED (R108). A WAITING walker tries its append again (R106); that it
does so, and that a next line is fetched, before any START RUN is taken is the model's choice (assumption
log 48). Any other walker takes no part. -/
def WalkerTold (v u : State) (r : Run) (reason : EndReason) : Prop :=
  let w := v.job.walker
  let ended := { w with run := none }
  let done := { ended with linesDone := (w.linesDone + 1) % 65536 }
  u = { v with
    job := { v.job with walker := u.job.walker }
    runs := { v.runs with queue := u.runs.queue, nextId := u.runs.nextId }, port := u.port } ∧
  RaisedWithin v.port u.port [.jobStopped] ∧
  (w.run ≠ some r.id → w.state ≠ .waiting → u = v) ∧
  (w.run ≠ some r.id → w.state = .waiting → ∀ c ∈ w.copy, LineAppended v u w c) ∧
  (w.run = some r.id → w.haltPending = true →
    u = { v with job := { v.job with
      walker := { ended with state := .idle, haltPending := false } } }) ∧
  (w.run = some r.id → w.haltPending = false → ∀ c ∈ w.copy,
    (reason = .complete →
      (c.linkEnd = true →
        u.runs = v.runs ∧ u.alarm .jobStopped = true ∧
        u.job.walker = { done with
          state := .done, stopReason := .chainEnd, stopAddress := w.lineAddress }) ∧
      (c.linkEnd = false → c.linkHold = true →
        u.runs = v.runs ∧ u.alarm .jobStopped = true ∧
        u.job.walker = { done with state := .held, heldReason := .linkHold }) ∧
      (c.linkEnd = false → c.linkHold = false →
        LineFetched v u done w.nextAddress w.latchedAllOrNone w.latchedAutoClose)) ∧
    (reason = .noCredit →
      u.runs = v.runs ∧ u.alarm .jobStopped = true ∧
      u.job.walker = { ended with
        state := .held, heldReason := .noCredit, remaining := c.count - r.printed
        copy := some { c with count := c.count - r.printed } }) ∧
    (reason ≠ .complete → reason ≠ .noCredit →
      u.runs = v.runs ∧ u.alarm .jobStopped = true ∧
      u.job.walker = { ended with
        state := .faulted, stopReason := .ended reason, stopAddress := w.lineAddress }))

/-- Steps 1 to 6 of R94: the run r leaves the queue of m for a reason, and the walker is told. -/
def RunEnds (m u : State) (r : Run) (reason : EndReason) : Prop :=
  ∃ v, OnlyRunLeft m v r reason ∧ WalkerTold v u r reason

/-- Runs that end one after the other for one reason, each with steps 1 to 6 of R94. -/
def RunsEnd (reason : EndReason) : List Run → State → State → Prop
  | [], m, u => u = m
  | r :: rest, m, u => ∃ v, RunEnds m v r reason ∧ RunsEnd reason rest v u

/-- The USED maximum reached (R18): the mark, the mode, EXHAUSTED, a request cleared with WANT_FAILED
(R153), and what the neighbours do. -/
def ExhaustedEntered (m e : State) : Prop :=
  let acct := { m.acct with exhaustedMark := true, mode := .exhausted }
  let share := { m.share with request := none }
  e = { m with acct := acct, share := e.share, bus := e.bus, port := e.port } ∧
  NeighboursActed { m with acct := acct, share := share } e ∧ e.alarm .exhausted = true ∧
  (m.share.request ≠ none → e.alarm .wantFailed = true) ∧
  RaisedWithin m.port e.port (.exhausted :: neighbourAlarms)

/-- The next imprint of r, the head of the queue of m and PRINTING there, is authorised, or the run ends
by the first check that fails (R83, R84, R18) and `next` follows. -/
def ImprintNext (next : State → State → Prop) (m t : State) (r : Run) : Prop :=
  (MayAuthorise m r →
    t = { m with
      acct := t.acct, slots := t.slots, runs := t.runs, bus := t.bus, share := t.share
      port := t.port, outs := t.outs } ∧
    Authorised m t r (m.slot r.slot) ∧
    t.runs = { m.runs with
      inFlight := t.runs.inFlight, sending := t.runs.sending, sendTimer := t.runs.sendTimer } ∧
    NeighboursActed { m with acct := t.acct } t ∧ RaisedWithin m.port t.port neighbourAlarms ∧
    t.alarm .lowCredit = (m.alarm .lowCredit ||
      (decide (m.lowWater ≤ m.acct.avail) && decide (m.acct.avail - r.latched < m.lowWater)))) ∧
  (¬ MayAuthorise m r → m.acct.mode ≠ .unconfigured →
    (OverUsed m r → ∃ e u, ExhaustedEntered m e ∧ RunEnds e u r .exhausted ∧ next u t) ∧
    (¬ OverUsed m r → ∃ u, RunEnds m u r (authoriseEnd m r) ∧ next u t))

/-- The value of a run at its start, or the reason for which it has none (R70): a direct value, or what
the active entry of its tariff code gives (R71 to R73). -/
def startValue (s : State) (r : Run) : Except EndReason Nat :=
  match r.direct, s.activeRate r.tariff with
  | some v, _ => .ok v
  | none, none => .error .rateMissing
  | none, some e => e.value r.weight r.count

/-- All or none, and the whole run is not covered by AVAIL and the slot's headroom (R74). -/
def StartsShort (s : State) (r : Run) (v : Nat) : Prop :=
  r.allOrNone = true ∧
    ∃ c ∈ r.count, s.acct.avail < v * c ∨ (s.slot r.slot).headroom < v * c

/-- The start of the head run r of m (R82): its slot takes it as run in progress and, for an auto-close
run, is CLOSING (R53); it is priced and latched; it ends for want of a value or of its whole credit, or
its first imprint follows, in the same step (R177; the model's choice, assumption log 53). -/
def HeadStarts (next : State → State → Prop) (m t : State) (r : Run) : Prop :=
  let sl := m.slot r.slot
  let begun : State := m.setSlot r.slot
    (if r.autoClose = true ∧ sl.state = .opened then
      { sl with run := some r.id, state := .closing, closeReason := .auto }
    else { sl with run := some r.id })
  match startValue m r with
  | .error reason => ∃ u, RunEnds begun u r reason ∧ next u t
  | .ok v =>
    let priced : Run := { r with latched := v }
    let printing : Run := { priced with state := .printing }
    (StartsShort m r v → ∃ u, RunEnds begun u priced .shortCredit ∧ next u t) ∧
    (¬ StartsShort m r v →
      ImprintNext next
        { begun with runs := { m.runs with queue := printing :: m.runs.queue.drop 1 } } t printing)

/-- What t is when the head run of m is considered for start (R81, R94 step 7), followed through n runs
that end one after the other: m with its outputs driven when no run can start, else the head's start. -/
def Starts : Nat → State → State → Prop
  | 0, _, _ => True
  | n + 1, m, t =>
    (NoStart m → t = { m with outs := t.outs }) ∧
    ∀ r ∈ m.runs.queue.head?, r.state = .queued → r.slot ≤ 3 → m.runs.inFlight = none →
      m.acct.mode = .active ∨ m.acct.mode = .contactDue ∨ m.acct.mode = .exhausted →
      HeadStarts (Starts n) m t r

/-- Form and ranges of a START RUN payload (R78, check 5). -/
def StartRunOk (p : List Byte) : Prop :=
  let flags := field p 9 1
  let continuous := flags / 32 % 2 = 1
  (field p 1 1 ≤ 31 ∨ (field p 1 1 = 255 ∧ 1 ≤ field p 6 3 ∧ field p 6 3 ≤ 999999)) ∧
  field p 2 2 ≤ 30000 ∧ (continuous ∨ (1 ≤ field p 4 2 ∧ field p 4 2 ≤ 9999)) ∧
  p.length ≤ 18 ∧ (∀ b ∈ p.drop 10, 1 ≤ b.toNat ∧ b.toNat ≤ 126) ∧ flags % 32 = 0 ∧
  ¬ (128 ≤ flags ∧ continuous)

/-- The run a START RUN payload asks for, under an id (R76, R78). -/
def startRunOf (p : List Byte) (id : Nat) : Run :=
  ⟨id, .command, field p 0 1, field p 1 1, if field p 1 1 = 255 then some (field p 6 3) else none,
    field p 2 2, if field p 9 1 / 32 % 2 = 1 then none else some (field p 4 2),
    decide (field p 9 1 / 64 % 2 = 1), decide (128 ≤ field p 9 1), (p.drop 10).map (·.toNat),
    0, 0, 0, 0, [], .queued, none⟩

/-- The bytes of a job line (section "Job line"): R100's fields, the endorsements, the terminator and the
link word. -/
def jobLineBytes (c : LineCopy) : List Byte :=
  beBytes 1 c.slot ++ beBytes 1 c.tariff ++ beBytes 2 c.weight ++ beBytes 2 c.count ++
  (match c.direct with
    | some v => beBytes 3 v
    | none => []) ++
  c.endorsements.map (BitVec.ofNat 8) ++ [127] ++ beBytes 2 c.linkWord

/-- The parts of a job line in the ranges of R100, R101 and R105. -/
def LineInRange (c : LineCopy) : Prop :=
  c.slot ≤ 3 ∧ c.weight ≤ 30000 ∧ (1 ≤ c.count ∧ c.count ≤ 9999) ∧
  (c.tariff ≤ 31 ∧ c.direct = none ∨
    c.tariff = 255 ∧ ∃ v ∈ c.direct, 1 ≤ v ∧ v ≤ 999999) ∧
  c.endorsements.length ≤ 8 ∧ (∀ e ∈ c.endorsements, 1 ≤ e ∧ e ≤ 126) ∧ c.linkNext ≤ 4095

/-! ## Reels -/

/-- The table without the entry of a reel. -/
def otherReels (s : State) (id : Nat) : List Reel := s.stock.table.filter fun q => q.id != id

/-- A reel note about an entry (R113). -/
def noteOf (kind : NoteKind) (r : Reel) : BusFrame :=
  .reelNote kind (BitVec.ofNat 32 r.id) (BitVec.ofNat 16 r.remaining) (BitVec.ofNat 16 r.denomination)

/-- A reel mounted in a feeder as the entry m, answered, its frame handed over (R130, R133 to R136): m at
the newest place, the note about it dropped, an EMPTY entry of the feeder without feeder, and from a
full table the oldest entry that is not MOUNTED gone. -/
def ReelMounted (s t : State) (f : Feeder) (m : Reel) (adjusted : Bool) (frame : BusFrame) : Prop :=
  t = { s with stock := t.stock, bus := t.bus, port := t.port, outs := t.outs } ∧
  t.bus = { s.bus with tx := t.bus.tx } ∧ HandedOver s t frame ∧
  t.stock = { s.stock with
    table := t.stock.table, released := s.stock.released.filter fun n => n.reelId != m.id } ∧
  t.stock.table.getLast? = some m ∧
  t.stock.table.length = min 12 ((otherReels s m.id).length + 1) ∧
  (∀ q ∈ otherReels s m.id,
    (otherReels s m.id).length < 12 ∨ (otherReels s m.id).find? (·.state != .mounted) ≠ some q →
    (if q.feeder = some f then { q with feeder := none } else q) ∈ t.stock.table) ∧
  RaisedWithin
    (s.portAfter ⟨.ok, beBytes 1 m.state.code ++ beBytes 1 m.check.code ++ beBytes 2 m.remaining ++
      beBytes 2 m.denomination ++ beBytes 2 m.countAtLoad ++ beBytes 1 adjusted.toNat⟩)
    t.port [.adjusted, .txOverflow] ∧
  t.alarm .adjusted = (s.alarm .adjusted || adjusted)

/-! ## Frames received -/

/-- A frame of a sender reaches its owner or the peer table (R114): the station receives, and the sender
is another station. -/
def Heard (s : State) (x : BitVec 5) : Prop :=
  s.busReceives = true ∧ 1 ≤ x.toNat ∧ x.toNat ≤ 30 ∧ s.station ≠ some x.toNat

/-- As Heard, in JOINING or ACTIVE, where every kind reaches its owner (R119). -/
def HeardWhole (s : State) (x : BitVec 5) : Prop :=
  s.busSends = true ∧ 1 ≤ x.toNat ∧ x.toNat ≤ 30 ∧ s.station ≠ some x.toNat

/-- The Bus Interface after a frame of a sender: its peer entry LIVE with age 0, and otherwise only the
transmit queue moved, and the queue kept (R114, R121, R124). -/
def BusHeard (s t : State) (x : BitVec 5) : Prop :=
  t.bus = { s.bus with tx := t.bus.tx, peers := (s.hearPeer x.toNat).bus.peers } ∧ QueueKept s t

/-! ## Credit between stations -/

/-- Eligible to give, `held` entries of the pledge table counted (R158). -/
def Eligible (s : State) (held : Nat) : Prop :=
  (s.acct.mode = .active ∨ s.acct.mode = .contactDue ∨ s.acct.mode = .exhausted) ∧
  s.bus.state = .active ∧ s.share.want = none ∧ held < 4 ∧
  s.share.outRecord.length + held < 8 ∧ 100 ≤ s.surplus

/-- Ranking first for the want of X (R159). -/
def RanksFirst (s : State) (x : Nat) : Prop :=
  s.acct.mode = .exhausted ∨
  ∀ p ∈ s.bus.peers, p.liveness = .live → p.station ≠ x → p.flags.wanting = false →
    p.flags.contactLocked = false → p.flags.exhausted = false →
    p.surplus < s.surplus ∨ (p.surplus = s.surplus ∧ (s.station.getD 0) ≤ p.station)

/-- A pledge to the want of X made on the state s, whose table of pledges becomes `table` (R158, R160). -/
def PledgeMade (s t : State) (x : BitVec 5) (wantNo : BitVec 16) (asked : Nat)
    (table : Offer → List PledgeEntry) : Prop :=
  let a := min (min asked s.surplus) ((s.port.settings.map (·.maxPledge)).getD 0)
  let no := if 65535 ≤ s.share.lastPledge then 1 else s.share.lastPledge + 1
  let acct := { s.acct with avail := s.acct.avail - a, escrow := s.acct.escrow + a }
  let share := { s.share with lastPledge := no, pledges := table ⟨no, a⟩ }
  t = { s with acct := acct, bus := t.bus, share := t.share, port := t.port, outs := t.outs } ∧
  NeighboursActed { s with acct := acct, share := share } t ∧
  HandedOver s t
    (.pledge (BitVec.ofNat 8 x.toNat) wantNo (BitVec.ofNat 16 no) (BitVec.ofNat 24 a)) ∧
  RaisedWithin s.port t.port neighbourAlarms

/-- An open pledge of a requester and a want number returned on the state s (R11, R160). -/
def PledgeReturned (s t : State) (x : BitVec 5) (wantNo : BitVec 16) (o : Offer) : Prop :=
  let acct := { s.acct with
    avail := s.acct.avail + o.amount, escrow := s.acct.escrow - o.amount }
  let share := { s.share with
    pledges := s.share.pledges.filter fun e =>
      !(e.requester == x.toNat && e.wantNo == wantNo.toNat) }
  t = { s with acct := acct, bus := t.bus, share := t.share, port := t.port, outs := t.outs } ∧
  NeighboursActed { s with acct := acct, share := share } t ∧
  RaisedWithin s.port t.port neighbourAlarms

/-- The Sharing Unit with the open want removed and the retry interval started (R148, R153). -/
def wantClosed (u : SharingUnit) : SharingUnit :=
  { u with want := none, wantWindow := none, settleTimer := none, retry := some 5000 }

/-- The conditions of R154 on a state. -/
def WantConditions (s : State) : Prop :=
  (s.acct.mode = .active ∨ s.acct.mode = .contactDue) ∧ s.bus.state = .active ∧
  s.share.want = none ∧ s.share.unresolved.length < 4 ∧ s.share.retry = none ∧
  (s.acct.avail < s.lowWater ∨ s.share.request ≠ none)

/-- The want conditions of the state m evaluated, with what follows (R154): a WANT for the least of the
base, the committed room and 16,777,215; below 100 none is sent, and a request is cleared. -/
def WantSent (m t : State) : Prop :=
  let base := match m.share.request with
    | some a => a
    | none => m.target - m.acct.avail - m.acct.incoming
  let amount := min (min base m.room) 16777215
  let no := if 65535 ≤ m.share.lastWant then 1 else m.share.lastWant + 1
  (¬ WantConditions m → t.share = m.share ∧ t.bus = m.bus) ∧
  (WantConditions m → 100 ≤ amount →
    t.share = { m.share with
      want := some ⟨no, amount, m.share.request.isSome, none⟩, lastWant := no, request := none
      wantWindow := some 1000 } ∧
    HandedOver m t (.want (BitVec.ofNat 16 no) (BitVec.ofNat 24 amount))) ∧
  (WantConditions m → amount < 100 →
    t.share = { m.share with request := none } ∧ t.bus = m.bus ∧
    (m.share.request ≠ none → t.alarm .wantFailed = true))

/-! ## The conditions of FEED_ENABLE (R142) -/

/-- Slot i holds feeder f as R142 asks for the reel r: OPEN on a grant from 1 to 63, the reel MOUNTED with
stamps left and VERIFIED or UNVERIFIED, the headroom at least its denomination. -/
def FeedsFrom (s : State) (f : Feeder) (i : Nat) (r : Reel) : Prop :=
  (s.slot i).bound f = true ∧ (s.slot i).state = .opened ∧ (s.slot i).grant ≠ 0 ∧
  r.state = .mounted ∧ r.feeder = some f ∧ 0 < r.remaining ∧
  (r.check = .verified ∨ r.check = .unverified) ∧ r.denomination ≤ (s.slot i).headroom

/-- Each feeder is bound to at most one slot (R54), and no two entries name one feeder (R129, R141). -/
def FeedersSingle (s : State) : Prop :=
  (∀ f ∈ [Feeder.a, .b], ∀ i < 4, ∀ j < 4,
    (s.slot i).bound f = true → (s.slot j).bound f = true → i = j) ∧
  s.stock.table.Pairwise fun q r => q.feeder = none ∨ q.feeder ≠ r.feeder

/-! ## Invariants -/

/-- A feeder is bound to at most one slot (R54), and an IDLE slot has none (R39). -/
def FeedersBoundOnce (s : State) : Prop :=
  (∀ f ∈ [Feeder.a, .b], ∀ i < 4, ∀ j < 4,
    (s.slot i).bound f = true → (s.slot j).bound f = true → i = j) ∧
  ∀ i < 4, (s.slot i).state = .idle → (s.slot i).boundA = false ∧ (s.slot i).boundB = false

/-- The sum of the amounts of the open pledges (R6). -/
def openPledges (l : List PledgeEntry) : Nat := (l.map fun e => (e.offer.map (·.amount)).getD 0).sum

/-- The amount of the TAKEN want plus the amounts of all unresolved entries (R1). -/
def expected (u : SharingUnit) : Nat :=
  ((u.want.bind (·.taken)).map (·.amount)).getD 0 + (u.unresolved.map (·.amount)).sum

/-- The pledge table holds no two entries for one requester and want no (R149). -/
def PledgeKeys (l : List PledgeEntry) : Prop :=
  l.Pairwise fun d e => d.requester ≠ e.requester ∨ d.wantNo ≠ e.wantNo

/-- The first law (R2), with what keeps it: ESCROW is the sum of the open pledges (R6), each of its own
want (R149). -/
def ControlIdentity (s : State) : Prop :=
  s.acct.avail + s.acct.held + s.acct.escrow + s.acct.used = s.acct.control ∧
  s.acct.escrow = openPledges s.share.pledges ∧ PledgeKeys s.share.pledges

/-- The second law (R3), with what keeps it: INCOMING is what is taken and not settled (R1, R6). -/
def WithinCeiling (s : State) : Prop :=
  ControlIdentity s ∧ s.acct.incoming = expected s.share ∧
  (s.configured = true → s.acct.ceilingSum ≤ s.ceiling)

/-- The third law (R4). -/
def SpoiledWithinUsed (s : State) : Prop := s.acct.spoiled ≤ s.acct.used

/-- A run that has started and not ended. -/
def Run.underWay (r : Run) : Bool := r.state == .printing || r.state == .stopping

/-- The fourth and the sixth law (R5, R80): at most 8 runs, no two of one id (R77), only the head ever
PRINTING, JAMMED or STOPPING; an imprint is in flight exactly while the head is PRINTING or STOPPING,
it is the head's, its value is the head's latched value, and HELD is that value or 0. -/
def QueueLaw (s : State) : Prop :=
  s.runs.queue.length ≤ 8 ∧ (s.runs.queue.map (·.id)).Nodup ∧
  (∀ r ∈ s.runs.queue.drop 1, r.state = .queued) ∧
  match s.runs.inFlight with
  | none => s.acct.held = 0 ∧ ∀ r ∈ s.runs.queue, r.underWay = false
  | some f =>
    s.acct.held = f.value ∧
    ∃ r ∈ s.runs.queue.head?, r.id = f.runId ∧ r.latched = f.value ∧ r.underWay = true

/-- The seventh law (R43): no grant from 1 to 63 is held by two slots. -/
def GrantsHeldOnce (s : State) : Prop :=
  ∀ i < 4, ∀ j < 4, (s.slot i).state ≠ .idle → (s.slot j).state ≠ .idle →
    (s.slot i).grant = (s.slot j).grant → (s.slot i).grant ≠ 0 → i = j

/-- The eighth law (R129), with what keeps it: a RELEASED entry has feeder none, a MOUNTED entry a
feeder, and no feeder is named twice. -/
def StockLaw (s : State) : Prop :=
  s.stock.table.length ≤ 12 ∧ (s.stock.table.map (·.id)).Nodup ∧
  (∀ r ∈ s.stock.table, r.remaining ≤ r.countAtLoad) ∧
  (∀ r ∈ s.stock.table, r.state = .released → r.feeder = none) ∧
  (∀ r ∈ s.stock.table, r.state = .mounted → r.feeder ≠ none) ∧
  s.stock.table.Pairwise fun q r => q.feeder = none ∨ q.feeder ≠ r.feeder

/-- The twelfth law (R151), with the count of R150: an open want counts for the place it may need. -/
def TransferLimits (s : State) : Prop :=
  s.share.unresolved.length + s.share.want.isSome.toNat ≤ 4 ∧ s.share.pledges.length ≤ 4 ∧
  s.share.outRecord.length + s.share.pledges.length ≤ 8

/-- The effective day, while it is not none, is greater than the day (R63), and the last contact day is
never above the day (R168). -/
def DaysInOrder (s : State) : Prop :=
  (∀ e, s.rates.effectiveDay = some e → s.rates.day < e) ∧ s.refill.lastContact ≤ s.rates.day

/-- The mode in step with the day and the last contact (R16, R176). -/
def ModeInStep (s : State) : Prop :=
  match s.port.settings with
  | none => s.acct.mode = .unconfigured
  | some c =>
    s.acct.mode = .exhausted ∨
      s.acct.mode = contactOutcome s.rates.day s.refill.lastContact c.contactDays

/-- Job memory is in canonical form. -/
def JobMemoryWf (s : State) : Prop := s.job.memory.wf = true

/-- Bits 29 to 31 of the alarm word and of the mask read 0 (R190, R191, the alarm word). -/
def AlarmBitsDefined (s : State) : Prop :=
  s.port.alarms &&& ~~~alarmBits = 0 ∧ s.port.mask &&& ~~~alarmBits = 0

/-- The transmit queue: at most 16 frames, at most one loaded, lowest kind code first, none while the
station does not send (R117, R119, R120). -/
def TransmitQueueLaw (s : State) : Prop :=
  s.bus.tx.length ≤ 16 ∧ (s.bus.tx.filter (·.loaded)).length ≤ 1 ∧
  (s.bus.tx.map fun e => e.frame.code).Pairwise (· ≤ ·) ∧ (s.busSends = false → s.bus.tx = [])

/-- The peer table: ascending by station number, no two for one number (R124, R127). -/
def PeerTableLaw (s : State) : Prop := (s.bus.peers.map (·.station)).Pairwise (· < ·)

end Sys2Proof.Machine
end

