-- ==== Sys2Proof/WellFormed.lean ====
section
/-! DEFINITION. Which terms of Instr stand for a command or an event that can reach the block at all:
the operands are what the row says they are. (Whether the block accepts it is exec's business.) -/

namespace Sys2Proof

/-- A station number that can be given (R113). -/
def stationOk (n : Nat) : Bool := decide (1 ≤ n) && decide (n ≤ 30)

/-- A received frame that fails a check of R114 whatever the own station number is: checks 1, 2, 3, 5,
6 and 7. The kind codes and data lengths are those of R113. -/
def RxFrame.ignorable (f : RxFrame) : Bool :=
  f.extended || f.remote || f.ident.toNat % 32 == 0 || f.ident.toNat % 32 == 31 ||
  match f.ident.toNat / 32 with
  | 4 | 8 | 16 => f.data.length != 8 || !(f.data.head?.any fun d => stationOk d.toNat)
  | 5 | 9 | 10 | 11 => f.data.length != 5 || !(f.data.head?.any fun d => stationOk d.toNat)
  | 20 => f.data.length != 5
  | 32 | 34 | 35 => f.data.length != 8
  | 33 => f.data.length != 4
  | 48 => f.data.length != 6
  | _ => true

/-- A payload one command frame can hold (R193: L is at most 60). -/
def payloadOk (p : List Byte) : Bool := decide (p.length ≤ 60)

/-- A standard identifier has 11 bits, and a classical frame at most 8 data bytes. -/
def RxFrame.shapeOk (f : RxFrame) : Bool :=
  (f.extended || decide (f.ident.toNat < 2048)) && decide (f.data.length ≤ 8)

/-- An edge of a settled line that a row of its own owns (R186: ISSUE and REEL_LOW rise, DONE and
FAULT rise, SERVICE fall). -/
def ownedEdge (l : Line) (level : Bool) : Bool :=
  match l, level with
  | .issueA, true | .issueB, true | .reelLowA, true | .reelLowB, true => true
  | .done, true | .fault, true | .service, false => true
  | _, _ => false

/-- The operands of a command are what its row says. -/
def Instr.wf : Instr → Bool
  | .nop p | .status p | .reset p | .configure p | .readLines p | .readRegisters p
  | .protectOff p | .protectOn p | .readAlarms p | .clearAlarms p | .setAlarmMask p
  | .clearAlarmMask p | .setDay p | .writePendingRate p | .setEffectiveDay p | .cancelPending p
  | .readRates p | .writeGrant p | .readGrant p | .closePeriod p | .openSlot p | .closeSlot p
  | .readSlot p | .bindFeeder p | .startRun p | .stopRun p | .resumeRun p | .readQueue p
  | .readFinished p | .writeJob p | .readJob p | .startJob p | .resumeJob p | .haltJob p
  | .readWalker p | .mountReel p | .unmountReel p | .readStock p | .readBus p | .readPeers p
  | .busRestart p | .requestCredit p | .readTransfers p | .discardUnresolved p
  | .applyRefill p => payloadOk p
  | .badCommand code p => payloadOk p && !Machine.knownCode code.toNat
  | .shortFrame bytes => Machine.tooShort bytes
  | .transactionWhileBusy _ => true
  | .restart | .doneRise | .faultRise | .mechanismTimerExpiry | .imprintSendingEnd => true
  | .issueRise _ | .reelLowRise _ | .serviceFall => true
  | .frameIgnored f => f.shapeOk && f.ignorable
  | .duplicateStation f =>
    f.shapeOk && !f.extended && !f.remote && stationOk (f.ident.toNat % 32)
  | .standing sender _ _ _ | .want sender _ _ => stationOk sender.toNat
  | .pledge sender dest _ _ _ | .take sender dest _ _ _ | .settled sender dest _ _ _ =>
    stationOk sender.toNat && stationOk dest.toNat
  | .ask sender dest _ _ | .waive sender dest _ _ | .received sender dest _ _ | .void sender dest _ _ =>
    stationOk sender.toNat && stationOk dest.toNat
  | .reelNoteMounted sender _ _ _ | .reelNoteReleased sender _ _ _ | .reelNoteEmpty sender _ _ _ =>
    stationOk sender.toNat
  | .reelAsk sender _ => stationOk sender.toNat
  | .frameSent | .frameNotSent | .busOff | .busControllerReturn | .standingTimerExpiry => true
  | .peerAgeing station => stationOk station.toNat
  | .wantWindowExpiry | .settleTimerExpiry | .retryIntervalExpiry => true
  | .pledgeTimerExpiry requester _ | .backupDelayExpiry requester _ => stationOk requester.toNat
  | .askWindowExpiry reelId => decide (reelId ≠ 0)
  | .lineSettled _ _ => true
  | .qualifiedLevelChange l level => !ownedEdge l level

end Sys2Proof
end

