-- ==== Sys2Proof/Certificates/Slice0/Obligations.lean ====
section
/-! DEFINITION. The statements for the provers. A statement that rests on a choice of the model says so
and names the assumption log's entry. -/

open Sys2Proof Sys2Proof.Machine

/-! ## The machine -/

/-- A step with a command at the front of the queue is that command's meaning on the state with the
queue's rest. -/
def Obligations.StepRunsTheFrontCommand : Prop :=
  ∀ (s : State) (c : Instr) (rest : List Instr), s.pending = c :: rest →
    step s = exec c { s with pending := rest }

/-- On an empty queue a step carries out the first expiry that is due, or lets 1 ms pass. The model's choice
(assumption logs 2 and 3). Due are a timer that has come to 0, an open pledge at 1,500 ms and a DELAYED
entry at 400 ms (R149), and a LIVE peer at three intervals (R125). In that millisecond every line is
sampled once (R186; a count that meets Q already is assumption logs 24 and 50), every timer has 1 ms less, and
every age 1 ms more, a peer's age stopping at its top; each edge of a settled line that has an owner is
queued as its owner's row. -/
def Obligations.IdleStepIsTheTimeBase : Prop :=
  ∀ (s : State), s.pending = [] →
    let less : Option Nat → Option Nat := fun t => t.map (· - 1)
    let qSensor := (s.port.settings.map (·.qSensor)).getD 4
    let qMech := (s.port.settings.map (·.qMech)).getD 4
    let at0 : Option Nat → Instr → List Instr := fun timer c => if timer = some 0 then [c] else []
    let due : List Instr :=
      at0 s.runs.sendTimer .imprintSendingEnd ++ at0 s.runs.mechTimer .mechanismTimerExpiry ++
      (s.share.pledges.flatMap fun e =>
        if e.offer = none then
          if 400 ≤ e.age then
            [.backupDelayExpiry (BitVec.ofNat 5 e.requester) (BitVec.ofNat 16 e.wantNo)]
          else []
        else if 1500 ≤ e.age then
          [.pledgeTimerExpiry (BitVec.ofNat 5 e.requester) (BitVec.ofNat 16 e.wantNo)]
        else []) ++
      at0 s.share.wantWindow .wantWindowExpiry ++ at0 s.share.settleTimer .settleTimerExpiry ++
      at0 s.share.retry .retryIntervalExpiry ++
      (s.stock.table.flatMap fun r =>
        if r.check = .asking then at0 r.askWindow (.askWindowExpiry (BitVec.ofNat 32 r.id)) else []) ++
      at0 s.bus.standingTimer .standingTimerExpiry ++
      (s.bus.peers.flatMap fun x =>
        if x.liveness = .live ∧ 3 * ((s.port.settings.map (·.interval)).getD 5 * 1000) ≤ x.age then
          [.peerAgeing (BitVec.ofNat 5 x.station)]
        else [])
    let edges : List (Line × Bool × Instr) :=
      [(.issueA, true, .issueRise .a), (.issueB, true, .issueRise .b),
        (.reelLowA, true, .reelLowRise .a), (.reelLowB, true, .reelLowRise .b),
        (.service, false, .serviceFall), (.done, true, .doneRise), (.fault, true, .faultRise)]
    (∀ c ∈ due.head?, step s = exec c s) ∧
    (due = [] → ∃ t, step s = .next t ∧
      t = { s with
        runs := { s.runs with
          sendTimer := less s.runs.sendTimer, mechTimer := less s.runs.mechTimer }
        stock := { s.stock with
          table := s.stock.table.map fun r => { r with askWindow := less r.askWindow } }
        bus := { s.bus with
          standingTimer := less s.bus.standingTimer
          peers := s.bus.peers.map fun x => { x with age := min (x.age + 1) 4294967295 } }
        share := { s.share with
          wantWindow := less s.share.wantWindow, settleTimer := less s.share.settleTimer
          retry := less s.share.retry
          pledges := s.share.pledges.map fun e => { e with age := e.age + 1 } }
        lines := t.lines
        pending := (edges.filter fun x =>
          (s.lines.get x.1).settled && (s.lines.get x.1).level != x.2.1 &&
            (t.lines.get x.1).level == x.2.1).map (·.2.2)
        outs := t.outs } ∧
      (∀ l ∈ [Line.issueA, .issueB, .reelLowA, .reelLowB, .service],
        t.lines.get l = sampledOnce (s.lines.get l) qSensor) ∧
      ∀ l ∈ [Line.done, .fault, .clean], t.lines.get l = sampledOnce (s.lines.get l) qMech)

/-- Every command answers a next state from every state, and none touches the queue of commands: the
model raises no fault and refuses nothing (assumption log 36). -/
def Obligations.EveryCommandAnswers : Prop :=
  ∀ (c : Instr) (s : State), ∃ t, exec c s = .next t ∧ t.pending = s.pending

/-- The state of a new part after its first restart. -/
def Obligations.ResetIsANewPart : Prop :=
  let s := State.reset
  s.acct = ⟨0, 0, 0, 0, 0, 0, 0, 0, false, .unconfigured, 0⟩ ∧
  (∀ g < 64, s.grant g = ⟨false, 0, .capped, false, 0, 0, false, 0, 0, 0, 0⟩) ∧ s.grants.period = 0 ∧
  (∀ i < 4, s.slot i =
    ⟨.idle, 0, 0, .capped, 0, 0, 0, 0, 0, 0, 0, false, false, none, .none, false⟩) ∧
  s.rates.day = 0 ∧ s.rates.effectiveDay = none ∧
  (∀ k < 32, s.activeRate k = none ∧ s.pendingRate k = none) ∧
  s.runs.queue = [] ∧ s.runs.nextId = 1 ∧ s.runs.inFlight = none ∧ s.runs.finished = [] ∧
  s.runs.endedCount = 0 ∧ (∀ a < 4096, s.job.memory.jobRead a = 0) ∧
  s.job.walker = ⟨.idle, 0, none, false, false, 0, 0, .none, .none, 0, none, false, 0⟩ ∧
  s.stock = ⟨[], [], 0, 0, 0⟩ ∧ s.bus.state = .quiet ∧ s.bus.tx = [] ∧ s.bus.peers = [] ∧
  s.bus.ignored = 0 ∧ s.share = ⟨none, none, none, none, none, 0, 0, [], [], [], 0⟩ ∧
  s.refill.lastNumber = 0 ∧ s.refill.lastContact = 0 ∧ s.port.settings = none ∧
  s.port.response = ⟨.ok, []⟩ ∧ s.port.protection = true ∧ s.port.alarms = 1 ∧ s.port.mask = 0 ∧
  (∀ l ∈ allLines, (s.lines.get l).level = false ∧ (s.lines.get l).settled = false) ∧
  s.outs = ⟨false, false, false, true, .recessive, [false], [false]⟩ ∧ s.pending = []

/-- After every command the output pins stand as R85, R115, R142, R191 and R194 give them. CAN_TX is said
by the frame it sends, the imprint link by the levels it goes through: assumption log 32. -/
def Obligations.OutputsFollowTheState : Prop :=
  ∀ (c : Instr) (s : State), ∃ t, exec c s = .next t ∧
    (t.outs.printEnable = true ↔ ∃ f ∈ t.runs.inFlight, f.phase = .enabled) ∧
    (t.outs.attn = true ↔
      ∃ i < 32, t.port.alarms.getLsbD i = true ∧ t.port.mask.getLsbD i = false) ∧
    (FeedersSingle t → ∀ f ∈ [Feeder.a, .b],
      (t.outs.feed f = true ↔
        t.configured = true ∧ ∃ i < 4, ∃ r ∈ t.stock.table, FeedsFrom t f i r)) ∧
    (t.bus.state = .quiet ∨ t.bus.state = .off ∨ t.bus.state = .silenced ∨
        (∀ e ∈ t.bus.tx, e.loaded = false) → t.outs.canTx = .recessive) ∧
    (t.bus.state = .joining ∨ t.bus.state = .active → ∀ n ∈ t.station,
      ∀ e ∈ t.bus.tx.find? (·.loaded),
        t.outs.canTx = .sending (e.frame.code * 32 + n) e.frame.data) ∧
    (t.runs.sending = [] → t.outs.impData = [false] ∧ t.outs.impStrobe = [false]) ∧
    let bits := t.runs.sending.flatMap fun b =>
      [b.getLsbD 7, b.getLsbD 6, b.getLsbD 5, b.getLsbD 4, b.getLsbD 3, b.getLsbD 2, b.getLsbD 1,
        b.getLsbD 0]
    t.outs.impData = (bits.flatMap fun b => [b, b]) ++ [false] ∧
    t.outs.impStrobe = (bits.flatMap fun _ => [false, true]) ++ [false]

/-! ## The Command Port -/

/-- What the bytes of a transaction are (R180, R193), and the checks of R181 on a command of the table:
the first that fails gives the response, and nothing else changes; the frames that are not carried out,
and NOP (R182). Refusals as assumption logs 10 and 12 have them. -/
def Obligations.FramesAreRefusedWithoutEffect : Prop :=
  (∀ (bytes : List Byte) (part : List Bool), part.length < 8 →
    wholeBytes ((bytes.flatMap fun b =>
      [b.getLsbD 7, b.getLsbD 6, b.getLsbD 5, b.getLsbD 4, b.getLsbD 3, b.getLsbD 2, b.getLsbD 1,
        b.getLsbD 0]) ++ part) = bytes) ∧
  (∀ (p fill : List Byte), p.length ≤ 60 →
    (∀ c, ∀ x ∈ portCommand c, x.2 = p →
      transactionRow (BitVec.ofNat 8 x.1.code :: BitVec.ofNat 8 p.length :: (p ++ fill)) = c) ∧
    ∀ code : Byte, (∀ c, ∀ x ∈ portCommand c, x.1.code ≠ code.toNat) →
      transactionRow (code :: BitVec.ofNat 8 p.length :: (p ++ fill)) = .badCommand code p) ∧
  (∀ bytes : List Byte,
    (bytes.length < 2 ∨
      ∃ l ∈ bytes[1]?, bytes.length < l.toNat + 2 ∨ 60 < l.toNat) →
    transactionRow bytes = .shortFrame bytes) ∧
  (∀ (r : Response) (n : Nat),
    (ShiftOut.response r).bytes n =
      (BitVec.ofNat 8 r.status.code :: BitVec.ofNat 8 r.payload.length ::
        (r.payload ++ List.replicate n 0)).take n ∧
    ShiftOut.busy.bytes n = List.replicate n 255) ∧
  ∀ (c : Instr) (s : State) (code : Byte) (p bytes : List Byte),
    (∀ x ∈ portCommand c, ∃ t, exec c s = .next t ∧
      (x.2.length < x.1.minLen ∨ x.1.maxLen < x.2.length → Refused s t .badLength) ∧
      (x.1.minLen ≤ x.2.length → x.2.length ≤ x.1.maxLen →
        (s.configured = false → x.1.before = false → x.1 ≠ .applyRefill → Refused s t .notConfigured) ∧
        (s.configured = false → x.1 = .applyRefill →
          OnlyAnswered s t ⟨.notConfigured,
            beBytes 4 s.refill.serial.toNat ++ beBytes 2 (field x.2 4 2) ++ [1] ++
            beBytes 4 s.acct.avail ++ beBytes 5 s.acct.used ++ beBytes 6 s.acct.control ++
            beBytes 5 s.acct.spoiled ++ beBytes 2 s.rates.day⟩) ∧
        (s.configured = true ∨ x.1.before = true → x.1.prot = true → s.port.protection = true →
          Refused s t .prot))) ∧
    (∃ t, exec (.badCommand code p) s = .next t ∧
      Refused s t (if p.length ≤ 60 then .badCommand else .badLength)) ∧
    (∃ t, exec (.shortFrame bytes) s = .next t ∧ Refused s t .badLength) ∧
    (∃ t, exec (.transactionWhileBusy bytes) s = .next t ∧
      t = { s with port := { s.port with spiOut := .busy }, outs := t.outs }) ∧
    (∃ t, exec (.nop []) s = .next t ∧
      t = { s with port := { s.port with spiOut := .response s.port.response }, outs := t.outs })

/-- A read changes no state: only the response buffer, what was shifted out, and the snapshot of a read
in parts. -/
def Obligations.ReadsChangeNothing : Prop :=
  ∀ (c : Instr) (s : State), readsOnly c = true → ∃ t, exec c s = .next t ∧
    t = { s with
      port := { s.port with
        response := t.port.response, spiOut := .response s.port.response, snapshot := t.port.snapshot }
      outs := t.outs }

/-- What READ REGISTERS, STATUS, READ LINES and READ ALARMS carry, configured or not (R20, R187, R189,
laid out by R195; the widths R195 leaves open are assumption log 9, the code of a level assumption log
44). -/
def Obligations.ConditionReadsCarryTheState : Prop :=
  ∀ (s : State),
    (∃ t, exec (.readRegisters []) s = .next t ∧ OnlyRead s t
      (beBytes 4 s.acct.avail ++ beBytes 3 s.acct.held ++ beBytes 4 s.acct.escrow ++
        beBytes 5 s.acct.used ++ beBytes 5 s.acct.spoiled ++ beBytes 6 s.acct.control ++
        beBytes 4 s.acct.incoming ++ beBytes 4 ((s.port.settings.map (·.ceiling)).getD 0) ++
        beBytes 4 ((s.port.settings.map fun c =>
          c.ceiling - (s.acct.avail + s.acct.held + s.acct.escrow + s.acct.incoming)).getD 0) ++
        beBytes 4 s.acct.imprintNo ++ beBytes 1 s.acct.mode.code ++
        beBytes 1 s.acct.exhaustedMark.toNat ++ beBytes 3 s.acct.restartSpoil)) ∧
    (∃ t, exec (.status []) s = .next t ∧ OnlyRead s t
      (beBytes 1 s.configured.toNat ++ beBytes 1 s.acct.mode.code ++
        beBytes 1 s.acct.exhaustedMark.toNat ++ beBytes 1 s.port.protection.toNat ++
        beBytes 1 s.bus.state.code ++
        ([0, 1, 2, 3].flatMap fun i => beBytes 1 (s.slot i).state.code) ++
        beBytes 1 s.runs.queue.length ++ beBytes 1 s.runs.inFlight.isSome.toNat ++
        beBytes 1 s.job.walker.state.code ++ beBytes 2 s.rates.day ++
        beBytes 2 s.refill.lastNumber ++ beBytes 2 s.refill.lastContact ++
        (match s.port.settings with
          | none => beBytes 1 0 ++ beBytes 3 0 ++ beBytes 3 0
          | some c => beBytes 1 c.contactDays ++
              beBytes 3 (if c.contactDays ≤ 5 then 0 else s.refill.lastContact + c.contactDays - 5) ++
              beBytes 3 (s.refill.lastContact + c.contactDays + 1)) ++
        beBytes 4 s.port.alarms.toNat ++ beBytes 4 s.port.mask.toNat)) ∧
    (∃ t, exec (.readLines []) s = .next t ∧ OnlyRead s t
      (([Line.issueA, .issueB, .reelLowA, .reelLowB, .service, .done, .fault, .clean].flatMap fun l =>
          beBytes 1 (s.lines.get l).level.toNat ++ beBytes 1 (s.lines.get l).settled.toNat) ++
        beBytes 1 ((s.port.settings.map (·.qSensor)).getD 4) ++
        beBytes 1 ((s.port.settings.map (·.qMech)).getD 4) ++
        beBytes 1 s.outs.printEnable.toNat ++ beBytes 1 s.outs.feedEnableA.toNat ++
        beBytes 1 s.outs.feedEnableB.toNat ++ beBytes 1 s.outs.attn.toNat)) ∧
    (∃ t, exec (.readAlarms []) s = .next t ∧ OnlyRead s t
      (beBytes 4 s.port.alarms.toNat ++ beBytes 4 s.port.mask.toNat))

/-- What READ RATES, READ GRANT and READ SLOT carry once configured (R36, R58, R69, R193, R195). -/
def Obligations.RecordReadsCarryTheRecord : Prop :=
  ∀ (s : State) (a b : Byte), s.configured = true →
    (∃ t, exec (.readRates [a, b]) s = .next t ∧
      (1 < a.toNat ∨ 31 < b.toNat → Refused s t .badArgument) ∧
      (a.toNat ≤ 1 → b.toNat ≤ 31 → OnlyRead s t
        (a :: b ::
          ((match (if a = 0 then s.activeRate b.toNat else s.pendingRate b.toNat) with
            | none => List.replicate 17 0
            | some e => 1 :: (beBytes 3 e.base ++ beBytes 2 e.baseWeight ++ beBytes 2 e.stepWeight ++
                beBytes 3 e.stepValue ++ beBytes 2 e.maxWeight ++ beBytes 2 e.threshold ++
                beBytes 2 e.discount)) ++
            beBytes 2 s.rates.day ++ beBytes 2 (s.rates.effectiveDay.getD 0))))) ∧
    (∃ t, exec (.readGrant [a]) s = .next t ∧
      (63 < a.toNat → Refused s t .badArgument) ∧
      (a.toNat ≤ 63 → OnlyRead s t
        (a :: (beBytes 1 ((s.grant a.toNat).present.toNat +
            (if (s.grant a.toNat).kind = .prepaid then 2 else 0) +
            4 * (s.grant a.toNat).coarse.toNat + 8 * (s.grant a.toNat).accessed.toNat) ++
          beBytes 2 (s.grant a.toNat).dept ++ beBytes 3 (s.grant a.toNat).amount ++
          beBytes 1 (s.grant a.toNat).level ++ beBytes 4 (s.grant a.toNat).spent ++
          beBytes 4 (s.grant a.toNat).spentLast ++ beBytes 4 (s.grant a.toNat).imprints ++
          beBytes 4 (s.grant a.toNat).stamps ++ beBytes 4 (s.grant a.toNat).effective ++
          beBytes 2 s.grants.period ++ beBytes 1 ((s.slotHolding a.toNat).getD 255))))) ∧
    (∃ t, exec (.readSlot [a]) s = .next t ∧
      (3 < a.toNat → Refused s t .badArgument) ∧
      (a.toNat ≤ 3 → OnlyRead s t (
        let sl := s.slot a.toNat
        beBytes 1 sl.state.code ++ beBytes 1 sl.grant ++ beBytes 1 sl.level ++
          beBytes 1 (if sl.kind = .prepaid then 1 else 0) ++ beBytes 4 sl.effective ++
          beBytes 4 sl.spentAtOpen ++ beBytes 4 sl.printDelta ++ beBytes 4 sl.stockDelta ++
          beBytes 4 sl.imprints ++ beBytes 4 sl.stamps ++ beBytes 4 sl.lateIssues ++
          beBytes 1 (sl.boundA.toNat + 2 * sl.boundB.toNat) ++ beBytes 1 (sl.run.getD 0) ++
          beBytes 1 sl.closeReason.code ++ beBytes 1 sl.clampActed.toNat ++
          beBytes 4 sl.headroom ++ beBytes 1 (s.runs.queue.countP fun r => r.slot == a.toNat))))

/-- What READ FINISHED, READ JOB, READ WALKER, READ BUS and READ TRANSFERS carry once configured (R95,
R99, R111, R127, R167), field after field; where R195 leaves a place or a byte open they are laid out as
assumption logs 8, 9, 51 (an absent line copy) and 52 (the number of entries of the pledge table) have it,
and the pledge table in the order of assumption log 45. -/
def Obligations.ListReadsCarryTheRecords : Prop :=
  ∀ (s : State) (a1 a2 len : Byte), s.configured = true →
    (∃ t, exec (.readFinished []) s = .next t ∧ OnlyRead s t
      (beBytes 1 s.runs.finished.length ++
        (s.runs.finished.flatMap fun f =>
          beBytes 1 f.runId ++
          (match f.source with
            | .command => beBytes 1 0 ++ beBytes 2 0
            | .jobLine a => beBytes 1 1 ++ beBytes 2 a
            | .unknown => beBytes 1 2 ++ beBytes 2 0) ++
          beBytes 1 f.slot ++ beBytes 1 f.reason.code ++
          beBytes 3 f.value ++ beBytes 4 f.printed ++ beBytes 4 f.refunded ++ beBytes 4 f.spoiled) ++
        beBytes 2 s.runs.endedCount)) ∧
    (∃ t, exec (.readJob [a1, a2, len]) s = .next t ∧
      (4095 < a1.toNat * 256 + a2.toNat ∨ len = 0 ∨ 56 < len.toNat → Refused s t .badArgument) ∧
      (a1.toNat * 256 + a2.toNat ≤ 4095 → len ≠ 0 → len.toNat ≤ 56 → OnlyRead s t
        ((List.range len.toNat).map fun k =>
          s.job.memory.read ((a1.toNat * 256 + a2.toNat + k) % 4096)))) ∧
    (∃ t, exec (.readWalker []) s = .next t ∧ OnlyRead s t (
      let w := s.job.walker
      beBytes 1 w.state.code ++ beBytes 2 w.lineAddress ++
        (match w.copy with
          | some c =>
            beBytes 1 c.slot ++ beBytes 1 c.tariff ++ beBytes 2 c.weight ++ beBytes 2 c.count ++
            beBytes 3 (c.direct.getD 0) ++
            (beBytes 1 c.endorsements.length ++ c.endorsements.flatMap fun e => beBytes 1 e) ++
            beBytes 2 (c.linkAutoClose.toNat * 32768 + c.linkAllOrNone.toNat * 16384 +
              c.linkHold.toNat * 8192 + c.linkEnd.toNat * 4096 + c.linkNext) ++
            beBytes 1 c.allOrNone.toNat ++ beBytes 1 c.autoClose.toNat
          | none =>
            [255, 255, 255, 255] ++ beBytes 2 0 ++ beBytes 3 0 ++ beBytes 1 0 ++ [255, 255] ++
            [Config.absentFieldByte 2, Config.absentFieldByte 3]) ++
        beBytes 1 w.latchedAllOrNone.toNat ++ beBytes 1 w.latchedAutoClose.toNat ++
        beBytes 2 w.nextAddress ++ beBytes 2 w.remaining ++ beBytes 1 w.heldReason.code ++
        beBytes 1 w.stopReason.code ++ beBytes 2 w.stopAddress ++ beBytes 1 (w.run.getD 0) ++
        beBytes 1 w.haltPending.toNat ++ beBytes 2 w.linesDone)) ∧
    (∃ t, exec (.readBus []) s = .next t ∧ OnlyRead s t
      (beBytes 1 s.bus.state.code ++
        (match s.port.settings with
          | none => []
          | some c => beBytes 1 c.station ++ beBytes 1 c.busRate ++ beBytes 1 c.interval) ++
        beBytes 1 s.bus.tx.length ++ beBytes 1 (s.bus.tx.any (·.loaded)).toNat ++
        beBytes 2 s.bus.ignored ++ beBytes 3 s.bus.announcedSurplus ++
        beBytes 1 (s.bus.announcedFlags.wanting.toNat + 2 * s.bus.announcedFlags.contactDue.toNat +
          4 * s.bus.announcedFlags.contactLocked.toNat +
          8 * s.bus.announcedFlags.exhausted.toNat))) ∧
    (∃ t, exec (.readTransfers []) s = .next t ∧ OnlyRead s t (
      let u := s.share
      let transfer (x : Transfer) : List Byte :=
        beBytes 1 x.station ++ beBytes 2 x.wantNo ++ beBytes 2 x.pledgeNo ++ beBytes 3 x.amount
      (match u.want with
        | none =>
          beBytes 2 0 ++ beBytes 3 0 ++ beBytes 1 0 ++ [Config.absentFieldByte 4] ++ beBytes 1 0 ++
          beBytes 2 0 ++ beBytes 3 0 ++ [255, 255, 255]
        | some w =>
          beBytes 2 w.no ++ beBytes 3 w.asked ++
          (match w.taken with
            | none =>
              beBytes 1 1 ++ beBytes 1 w.forRequest.toNat ++ beBytes 1 0 ++ beBytes 2 0 ++
              beBytes 3 0 ++ [255] ++ beBytes 2 (u.wantWindow.getD 65535)
            | some k =>
              beBytes 1 2 ++ beBytes 1 w.forRequest.toNat ++ beBytes 1 k.giver ++
              beBytes 2 k.pledgeNo ++ beBytes 3 k.amount ++ beBytes 1 k.attempts ++
              beBytes 2 (u.settleTimer.getD 65535))) ++
        (beBytes 1 u.pledges.length ++ u.pledges.flatMap fun e =>
          beBytes 1 e.requester ++ beBytes 2 e.wantNo ++ beBytes 3 e.asked ++
          (match e.offer with
            | none => beBytes 2 0 ++ beBytes 3 0 ++ beBytes 1 0
            | some o => beBytes 2 o.pledgeNo ++ beBytes 3 o.amount ++ beBytes 1 1) ++
          beBytes 2 e.age) ++
        (beBytes 1 u.outRecord.length ++ u.outRecord.flatMap transfer) ++
        (beBytes 1 u.unresolved.length ++ u.unresolved.flatMap transfer) ++
        beBytes 1 u.request.isSome.toNat ++ beBytes 3 (u.request.getD 0) ++
        beBytes 1 u.retry.isSome.toNat ++ beBytes 2 u.lastWant ++ beBytes 2 u.lastPledge ++
        beBytes 6 u.writtenOff ++
        (match s.port.settings with
          | none => []
          | some c => beBytes 4 c.reserve ++ beBytes 4 c.lowWater ++ beBytes 4 c.target ++
              beBytes 3 c.maxPledge)))

/-- The reads in parts (R183): part 0 keeps the whole answer in stretches of at most 248 bytes, and part
k returns the k-th of them. The whole answers of READ QUEUE (R96), READ PEERS (R127) and READ STOCK
(R146) field after field; where R195 leaves a place or a code open they are laid out as assumption logs
8, 9, 44, 46 and 52 (the number of entries of the stock table) have it. -/
def Obligations.PartsDescribeOneMoment : Prop :=
  ∀ (s : State) (k : Byte), s.configured = true → (∀ read ∈ [PartsOf.queue, .peers, .stock],
    (k = 0 → (wholeAnswer s read).length ≤ 63240 →
      ∃ t, exec (readCommand read [k]) s = .next t ∧
      t = { s with
        port := { s.port with
          response := t.port.response, spiOut := .response s.port.response
          snapshot := t.port.snapshot }
        outs := t.outs } ∧
      ∃ snap ∈ t.port.snapshot, snap.of = read ∧ snap.parts.flatten = wholeAnswer s read ∧
        snap.parts ≠ [] ∧ (∀ x ∈ snap.parts, x.length ≤ 248) ∧
        t.port.response =
          ⟨.ok, 0 :: BitVec.ofNat 8 snap.parts.length :: (snap.parts.head?).getD []⟩) ∧
    (k ≠ 0 → ∃ t, exec (readCommand read [k]) s = .next t ∧
      OnlyAnswered s t
        (match s.port.snapshot with
          | none => ⟨.badArgument, []⟩
          | some snap =>
            if snap.of = read then
              match snap.parts[k.toNat]? with
              | none => ⟨.badArgument, []⟩
              | some x => ⟨.ok, k :: BitVec.ofNat 8 snap.parts.length :: x⟩
            else ⟨.badArgument, []⟩))) ∧
    (wholeAnswer s .queue =
      beBytes 1 s.runs.queue.length ++
      (s.runs.queue.flatMap fun r =>
        beBytes 1 r.id ++
        (match r.source with
          | .command => beBytes 1 0 ++ beBytes 2 0
          | .jobLine a => beBytes 1 1 ++ beBytes 2 a
          | .unknown => beBytes 1 2 ++ beBytes 2 0) ++
        beBytes 1 r.slot ++ beBytes 1 r.tariff ++ beBytes 3 (r.direct.getD 0) ++
        beBytes 2 r.weight ++ beBytes 2 (r.count.getD 0) ++ beBytes 1 r.allOrNone.toNat ++
        beBytes 1 r.autoClose.toNat ++
        (beBytes 1 r.endorsements.length ++ r.endorsements.flatMap fun e => beBytes 1 e) ++
        beBytes 3 r.latched ++ beBytes 4 r.printed ++ beBytes 4 r.refunded ++ beBytes 4 r.spoiled ++
        (beBytes 1 r.voids.length ++ r.voids.flatMap fun v => beBytes 4 v) ++
        beBytes 1 r.state.code ++
        (match r.pendingEnd with
          | none => beBytes 1 0
          | some reason => beBytes 1 reason.code)) ++
      (match s.runs.inFlight with
        | none => beBytes 1 0 ++ [255, 255, 255, 255] ++ beBytes 3 0 ++ [Config.absentFieldByte 1]
        | some f => beBytes 1 f.runId ++ beBytes 4 f.number ++ beBytes 3 f.value ++
            beBytes 1 (if f.phase = .enabled then 1 else 0))) ∧
    (wholeAnswer s .peers =
      beBytes 1 s.bus.peers.length ++
      (s.bus.peers.flatMap fun x =>
        beBytes 1 x.station ++ beBytes 3 x.surplus ++ beBytes 2 x.day ++
        beBytes 1 (x.flags.wanting.toNat + 2 * x.flags.contactDue.toNat +
          4 * x.flags.contactLocked.toNat + 8 * x.flags.exhausted.toNat) ++
        beBytes 4 x.age ++ beBytes 1 (if x.liveness = .silent then 1 else 0))) ∧
    (wholeAnswer s .stock =
      beBytes 1 s.stock.table.length ++
      (s.stock.table.flatMap fun r =>
        beBytes 4 r.id ++ beBytes 2 r.denomination ++ beBytes 2 r.countAtLoad ++
        beBytes 2 r.remaining ++ beBytes 4 r.issued ++ beBytes 1 r.state.code ++
        beBytes 1 (match r.feeder with
          | some .a => 0
          | some .b => 1
          | none => 255) ++ beBytes 1 r.check.code) ++
      beBytes 1 s.stock.released.length ++
      (s.stock.released.flatMap fun n =>
        beBytes 4 n.reelId ++ beBytes 2 n.remaining ++ beBytes 2 n.denomination ++
        beBytes 1 n.sender) ++
      beBytes 6 s.stock.issuedValue ++ beBytes 4 s.stock.unassigned ++
      beBytes 4 s.stock.unaccounted ++
      beBytes 5 ((s.stock.table.filter fun r => r.state != .empty).map fun r =>
        r.denomination * r.remaining).sum ++
      beBytes 1 s.outs.feedEnableA.toNat ++ beBytes 1 s.outs.feedEnableB.toNat)

/-- CLEAR ALARMS (R190), SET ALARM MASK and CLEAR ALARM MASK (R191). -/
def Obligations.AlarmsAndMaskMoveByOnes : Prop :=
  ∀ (s : State) (p : List Byte), p.length = 4 →
    (∃ t, exec (.clearAlarms p) s = .next t ∧
      t = { s with
        port := { s.portAfter ⟨.ok, beBytes 4 s.port.alarms.toNat⟩ with alarms := t.port.alarms }
        outs := t.outs } ∧
      ∀ i < 32, t.port.alarms.getLsbD i =
        (s.port.alarms.getLsbD i && !(decide (i < 29) && (BitVec.ofNat 32 (field p 0 4)).getLsbD i))) ∧
    (s.configured = true →
      (∃ t, exec (.setAlarmMask p) s = .next t ∧
        t = { s with port := { s.portAfter ⟨.ok, []⟩ with mask := t.port.mask }, outs := t.outs } ∧
        ∀ i < 32, t.port.mask.getLsbD i =
          (s.port.mask.getLsbD i || (decide (i < 29) && (BitVec.ofNat 32 (field p 0 4)).getLsbD i))) ∧
      (∃ t, exec (.clearAlarmMask p) s = .next t ∧
        t = { s with port := { s.portAfter ⟨.ok, []⟩ with mask := t.port.mask }, outs := t.outs } ∧
        ∀ i < 32, t.port.mask.getLsbD i =
          (s.port.mask.getLsbD i && !(decide (i < 29) && (BitVec.ofNat 32 (field p 0 4)).getLsbD i))))

/-- The protection state (R188): ON after every restart; while ON the seven protected commands are
refused; PROTECT OFF, PROTECT ON and the fall of SERVICE move it. What the fall leaves of the SERVICE
qualifier (R186) is the model's reading (assumption log 23). -/
def Obligations.ProtectionFollowsTheKey : Prop :=
  ∀ (s : State),
    (∀ c ∈ [Instr.restart, .reset []], ∃ t, exec c s = .next t ∧ t.port.protection = true) ∧
    (∀ c, (∃ x ∈ portCommand c, x.1.prot = true) ↔
      ((∃ p, c = .writeGrant p) ∨ (∃ p, c = .closePeriod p) ∨ (∃ p, c = .setDay p) ∨
        (∃ p, c = .writePendingRate p) ∨ (∃ p, c = .setEffectiveDay p) ∨ (∃ p, c = .cancelPending p) ∨
        (∃ p, c = .discardUnresolved p))) ∧
    (∀ c, ∀ x ∈ portCommand c, x.1.prot = true → x.2.length = x.1.minLen → s.configured = true →
      s.port.protection = true → ∃ t, exec c s = .next t ∧ Refused s t .prot) ∧
    (s.configured = true → ∃ t, exec (.protectOff []) s = .next t ∧
      (s.lines.service.settled = true ∧ s.lines.service.level = true →
        t = { s with port := { s.portAfter ⟨.ok, []⟩ with protection := false }, outs := t.outs }) ∧
      (¬ (s.lines.service.settled = true ∧ s.lines.service.level = true) → Refused s t .noService)) ∧
    (s.configured = true → ∃ t, exec (.protectOn []) s = .next t ∧
      t = { s with port := { s.portAfter ⟨.ok, []⟩ with protection := true }, outs := t.outs }) ∧
    (∃ t, exec .serviceFall s = .next t ∧
      t = { s with
        port := { s.port with protection := true }, lines := linesTaken s .service false
        outs := t.outs })

/-- CONFIGURE: its checks (R184), and what an accepted one does (R185, R17, R14, R115). -/
def Obligations.ConfigureIsCheckedAndEntersJoining : Prop :=
  ∀ (s : State) (p : List Byte), p.length = 25 →
    (∃ t, exec (.configure p) s = .next t ∧
      (s.configured = true → Refused s t .alreadyConfigured) ∧
      (s.configured = false → ¬ ConfigInRange p → Refused s t .badConfig) ∧
      (s.configured = false → ConfigInRange p →
        field p 2 4 < s.acct.avail + s.acct.held + s.acct.escrow + s.acct.incoming →
        Refused s t .badConfig)) ∧
    (s.port.settings = none →
      s.acct.mode = .unconfigured → s.bus.tx = [] → ConfigInRange p →
      s.acct.avail + s.acct.held + s.acct.escrow + s.acct.incoming ≤ field p 2 4 →
      ∃ t, exec (.configure p) s = .next t ∧
        t = { s with acct := t.acct, bus := t.bus, port := t.port, outs := t.outs } ∧
        t.port.settings = some
          ⟨field p 0 1, field p 1 1, field p 2 4, field p 6 4, field p 10 4, field p 14 4, field p 18 3,
            if field p 21 1 = 0 then 5 else field p 21 1, field p 22 1, field p 23 1, field p 24 1⟩ ∧
        t.acct = { s.acct with
          mode :=
            if s.acct.exhaustedMark then .exhausted
            else contactOutcome s.rates.day s.refill.lastContact (field p 22 1) } ∧
        t.bus.state = .joining ∧ t.bus.peers = s.bus.peers ∧ t.bus.ignored = s.bus.ignored ∧
        t.bus.standingTimer = some ((if field p 21 1 = 0 then 5 else field p 21 1) * 1000) ∧
        Queued t t.formStanding ∧
        t.port.response = ⟨.ok, beBytes 1 t.acct.mode.code ++ beBytes 1 1⟩ ∧
        (∀ a ∈ [Alarm.lowCredit, .exhausted, .contactDue, .contactLocked],
          t.alarm a = (s.alarm a ||
            match a with
            | .lowCredit => decide (s.acct.avail < field p 6 4)
            | .exhausted => t.acct.mode == .exhausted
            | .contactDue => t.acct.mode == .contactDue
            | _ => t.acct.mode == .contactLocked)) ∧
        t.port = { s.port with
          settings := t.port.settings, response := t.port.response
          spiOut := .response s.port.response, snapshot := none, alarms := t.port.alarms })

/-- What a restart does to the credit, the out record and the want (R15, R16, R166), by RESET_N or power
and by RESET alike (R192). That a TAKEN want becomes an unresolved entry also beside one of the same giver,
want no and pledge no is the model's choice (assumption log 49). -/
def Obligations.RestartSettlesTheCredit : Prop :=
  ∀ (s : State), ∀ c ∈ [Instr.restart, .reset []], ∃ t, exec c s = .next t ∧
    t.acct = { s.acct with
      avail := s.acct.avail + s.acct.escrow, held := 0, escrow := 0
      used := s.acct.used + s.acct.held, spoiled := s.acct.spoiled + s.acct.held
      mode := .unconfigured, restartSpoil := s.acct.held } ∧
    t.share = { s.share with
      want := none, wantWindow := none, settleTimer := none, retry := none, request := none
      pledges := []
      unresolved := s.share.unresolved ++
        match s.share.want with
        | some ⟨no, _, _, some k⟩ => [⟨k.giver, no, k.pledgeNo, k.amount⟩]
        | _ => [] } ∧
    t.alarm .unresolved = (s.share.want.bind (·.taken)).isSome ∧
    t.rates = s.rates ∧ t.refill = s.refill ∧ t.pending = s.pending

/-- What a restart clears and keeps elsewhere (R57, R97, R112, R128, R147, R186, R192), by RESET_N or
power and by RESET alike. That it keeps each line's pin is the model's choice (assumption log 22), and so
is that what the last transaction shifted out stays (assumption log 27): with RESET that is the response
held before it (R182). -/
def Obligations.RestartClearsTheVolatileState : Prop :=
  ∀ (s : State), GrantsHeldOnce s → ∀ c ∈ [Instr.restart, .reset []], ∃ t, exec c s = .next t ∧
    t.port = { s.port with
      settings := none, response := ⟨.ok, []⟩, snapshot := none, protection := true
      alarms := t.port.alarms, mask := 0
      spiOut := if c = .restart then s.port.spiOut else .response s.port.response } ∧
    (∀ i < 32, t.port.alarms.getLsbD i = true → i = 0 ∨ i = 11 ∨ i = 22) ∧ t.alarm .started = true ∧
    (∀ i < 4, t.slot i =
      if (s.slot i).state = .idle then s.slot i
      else { s.slot i with
        state := .idle, boundA := false, boundB := false, run := none, closeReason := .restart
        clampActed := (t.slot i).clampActed }) ∧
    (∀ g < 64, (∀ i < 4, (s.slot i).state ≠ .idle → (s.slot i).grant ≠ g) → t.grant g = s.grant g) ∧
    (∀ i < 4, (s.slot i).state ≠ .idle → (s.slot i).grant ≠ 0 → (s.slot i).grant < 64 →
      t.grant (s.slot i).grant = (s.grant (s.slot i).grant).takeUsage (s.slot i)) ∧
    t.grants.period = s.grants.period ∧
    t.runs = { t.runs with
      queue := [], nextId := s.runs.nextId, inFlight := none, sending := [], sendTimer := none
      mechTimer := none } ∧
    t.runs.finished = ([0, 1, 2, 3].filterMap fun i =>
      if (s.slot i).state = .idle then none
      else (s.slot i).run.map fun id =>
        ⟨id, .unknown, i, .restart, s.acct.held, 0, 0, if s.acct.held = 0 then 0 else 1⟩) ∧
    t.runs.endedCount = t.runs.finished.length ∧
    t.job = ⟨[], ⟨.idle, 0, none, false, false, 0, 0, .none, .none, 0, none, false, 0⟩⟩ ∧
    t.stock = { s.stock with table := t.stock.table, released := [] } ∧
    t.stock.table.length = s.stock.table.length ∧
    (∀ r ∈ s.stock.table,
      (if r.check = .asking then { r with check := .unverified, askWindow := none } else r)
        ∈ t.stock.table) ∧
    t.bus.state = .quiet ∧ t.bus.tx = [] ∧ t.bus.peers = [] ∧ t.bus.ignored = 0 ∧
    t.bus.standingTimer = none ∧
    (∀ l ∈ allLines, (t.lines.get l).level = false ∧ (t.lines.get l).settled = false ∧
      (t.lines.get l).count = 0 ∧ (t.lines.get l).pin = (s.lines.get l).pin)

/-! ## Rates, the day, grants -/

/-- SET DAY (R60, R61, R63, R68, R175, R178). The payload of BAD_DAY is assumption log 11. In
CONTACT_LOCKED the later day leaves the mode where it is whenever the mode stands in step with the day
(ModeInStep, kept by every step); the other case is left out. -/
def Obligations.SetDayMovesTheDayForward : Prop :=
  ∀ (s : State) (p : List Byte), p.length = 2 → ∀ c ∈ s.port.settings, s.port.protection = false →
    let day := field p 0 2
    let swaps := ∃ e ∈ s.rates.effectiveDay, e ≤ day
    let rates : RateUnit :=
      if swaps then ⟨day, s.rates.pending, Vector.replicate 32 none, none⟩
      else { s.rates with day := day }
    let contact := if s.rates.day = 0 ∧ s.refill.lastContact = 0 then day else s.refill.lastContact
    let mode :=
      if s.acct.mode = .exhausted then .exhausted else contactOutcome day contact c.contactDays
    let m : State := { s with
      acct := { s.acct with mode := mode }, rates := rates
      refill := { s.refill with lastContact := contact } }
    ∃ t, exec (.setDay p) s = .next t ∧
      (day < s.rates.day →
        OnlyAnswered s t ⟨.badDay, beBytes 2 s.rates.day ++ beBytes 2 (s.rates.effectiveDay.getD 0)⟩) ∧
      (day = s.rates.day →
        OnlyRead s t (beBytes 2 s.rates.day ++ beBytes 2 (s.rates.effectiveDay.getD 0))) ∧
      (s.rates.day < day → s.acct.mode ≠ .contactLocked ∨ mode = .contactLocked →
        t = { m with share := t.share, bus := t.bus, port := t.port, outs := t.outs } ∧
        (mode ≠ s.acct.mode → NeighboursActed m t) ∧
        (mode = s.acct.mode → t.share = s.share ∧ t.bus = s.bus) ∧
        RaisedWithin
          (s.portAfter ⟨.ok, beBytes 2 day ++ beBytes 2 (rates.effectiveDay.getD 0)⟩) t.port
          ([.ratesSwapped, .contactDue, .contactLocked] ++ neighbourAlarms) ∧
        t.alarm .ratesSwapped = (s.alarm .ratesSwapped || decide swaps) ∧
        t.alarm .contactDue =
          (s.alarm .contactDue || decide (mode = .contactDue ∧ s.acct.mode ≠ .contactDue)) ∧
        t.alarm .contactLocked =
          (s.alarm .contactLocked || decide (mode = .contactLocked ∧ s.acct.mode ≠ .contactLocked)))

/-- WRITE PENDING RATE with the ranges of R64, SET EFFECTIVE DAY and CANCEL PENDING (R65 to R67), refused
before configuration and under protection (R181). -/
def Obligations.PendingTableAndItsDayAreWritten : Prop :=
  ∀ (s : State) (p : List Byte),
    (p.length = 18 → s.configured = true → s.port.protection = false →
      ∃ t, exec (.writePendingRate p) s = .next t ∧
        (31 < field p 0 1 → Refused s t .badArgument) ∧
        (field p 0 1 ≤ 31 → field p 1 1 ≠ 0 →
          ¬ (field p 1 1 = 1 ∧ (1 ≤ field p 2 3 ∧ field p 2 3 ≤ 99999) ∧
            (1 ≤ field p 5 2 ∧ field p 5 2 ≤ 9999) ∧ field p 7 2 ≤ 9999 ∧ field p 9 3 ≤ 99999 ∧
            field p 12 2 ≤ 30000 ∧ field p 5 2 ≤ field p 12 2 ∧
            (field p 14 2 = 0 ∨ (2 ≤ field p 14 2 ∧ field p 14 2 ≤ 9999)) ∧ field p 16 2 ≤ 500) →
          Refused s t .badArgument) ∧
        (field p 0 1 ≤ 31 →
          (field p 1 1 = 0 ∨
            (field p 1 1 = 1 ∧ (1 ≤ field p 2 3 ∧ field p 2 3 ≤ 99999) ∧
            (1 ≤ field p 5 2 ∧ field p 5 2 ≤ 9999) ∧ field p 7 2 ≤ 9999 ∧ field p 9 3 ≤ 99999 ∧
            field p 12 2 ≤ 30000 ∧ field p 5 2 ≤ field p 12 2 ∧
            (field p 14 2 = 0 ∨ (2 ≤ field p 14 2 ∧ field p 14 2 ≤ 9999)) ∧ field p 16 2 ≤ 500)) →
          t = { s with rates := t.rates, port := s.portAfter ⟨.ok, []⟩, outs := t.outs } ∧
          t.rates = { s.rates with pending := t.rates.pending } ∧
          t.pendingRate (field p 0 1) =
            (if field p 1 1 = 0 then none
            else some ⟨field p 2 3, field p 5 2, field p 7 2, field p 9 3, field p 12 2, field p 14 2,
              field p 16 2⟩) ∧
          ∀ k < 32, k ≠ field p 0 1 → t.pendingRate k = s.pendingRate k)) ∧
    (p.length = 2 →
      (∃ t, exec (.setEffectiveDay p) s = .next t ∧
        (s.configured = false → Refused s t .notConfigured) ∧
        (s.configured = true → s.port.protection = true → Refused s t .prot) ∧
        (s.configured = true → s.port.protection = false →
          (field p 0 2 ≤ s.rates.day → Refused s t .badDay) ∧
          (s.rates.day < field p 0 2 →
            t = { s with
              rates := { s.rates with effectiveDay := some (field p 0 2) }
              port := s.portAfter ⟨.ok, []⟩, outs := t.outs }))) ∧
      (∃ t, exec (.cancelPending []) s = .next t ∧
        (s.configured = false → Refused s t .notConfigured) ∧
        (s.configured = true → s.port.protection = true → Refused s t .prot) ∧
        (s.configured = true → s.port.protection = false →
          t = { s with rates := t.rates, port := s.portAfter ⟨.ok, []⟩, outs := t.outs } ∧
          t.rates = { s.rates with pending := t.rates.pending, effectiveDay := none } ∧
          ∀ k < 32, t.pendingRate k = none)))

/-- The imprint value of a run priced by tariff code (R71 to R73), from an entry within the ranges of R64,
for a weight w and a count c (none when continuous). -/
def Obligations.ImprintValueFollowsTheRates : Prop :=
  ∀ (e : RateEntry) (w : Nat) (c : Option Nat), e.ok = true →
    let weight := if w = 0 then e.baseWeight else w
    let steps :=
      if weight ≤ e.baseWeight then 0
      else (weight - e.baseWeight) / e.stepWeight +
        (if (weight - e.baseWeight) % e.stepWeight = 0 then 0 else 1)
    let gross := e.base + steps * e.stepValue
    let discount :=
      if e.threshold ≠ 0 ∧ (∃ n ∈ c, e.threshold ≤ n) then (gross * e.discount + 500) / 1000 else 0
    let heavy := e.maxWeight < weight ∨ (e.stepWeight = 0 ∧ e.baseWeight < weight)
    (heavy → e.value w c = .error .overweight) ∧
    (¬ heavy → 999999 < gross → e.value w c = .error .tooLarge) ∧
    (¬ heavy → gross ≤ 999999 →
      e.value w c = .ok (if gross - discount < 1 then 1 else gross - discount) ∧
      discount ≤ gross)

/-- WRITE GRANT (R32). -/
def Obligations.GrantIsWrittenWhole : Prop :=
  ∀ (s : State) (p : List Byte), p.length = 12 → s.configured = true → s.port.protection = false →
    let flags := field p 1 1
    let bad := 16 ≤ flags ∨ 1048575 < field p 4 3 ∨ 3 < field p 7 1 ∨
      (flags % 2 = 1 ∧ field p 2 2 = 0) ∨ (flags / 2 % 2 = 1 ∧ flags / 4 % 2 = 1)
    ∃ t, exec (.writeGrant p) s = .next t ∧
      (field p 0 1 = 0 → Refused s t .nullGrant) ∧
      (field p 0 1 ≠ 0 → 63 < field p 0 1 ∨ bad → Refused s t .badArgument) ∧
      (field p 0 1 ≠ 0 → field p 0 1 ≤ 63 → ¬ bad →
        t = { s with grants := t.grants, port := s.portAfter ⟨.ok, []⟩, outs := t.outs } ∧
        t.grants.period = s.grants.period ∧
        t.grant (field p 0 1) =
          ⟨decide (flags % 2 = 1), field p 2 2, if flags / 2 % 2 = 1 then .prepaid else .capped,
            decide (flags / 4 % 2 = 1), field p 4 3, field p 7 1, decide (flags / 8 % 2 = 1),
            field p 8 4, (s.grant (field p 0 1)).spentLast, (s.grant (field p 0 1)).imprints,
            (s.grant (field p 0 1)).stamps⟩ ∧
        ∀ g < 64, g ≠ field p 0 1 → t.grant g = s.grant g)

/-- CLOSE PERIOD (R37). -/
def Obligations.PeriodClosesForEveryGrant : Prop :=
  ∀ (s : State), ∃ t, exec (.closePeriod []) s = .next t ∧
    (s.configured = false → Refused s t .notConfigured) ∧
    (s.configured = true → s.port.protection = true → Refused s t .prot) ∧
    (s.configured = true → s.port.protection = false →
      (¬ (∀ i < 4, (s.slot i).state = .idle) → Refused s t .slotsOpen) ∧
      ((∀ i < 4, (s.slot i).state = .idle) →
        t = { s with
          grants := t.grants
          port := s.portAfter ⟨.ok, beBytes 2 ((s.grants.period + 1) % 65536)⟩, outs := t.outs } ∧
        t.grants.period = (s.grants.period + 1) % 65536 ∧ t.grant 0 = s.grant 0 ∧
        ∀ g < 64, g ≠ 0 → t.grant g = { s.grant g with
          spentLast := (s.grant g).spent, spent := 0, imprints := 0, stamps := 0, accessed := false }))

/-! ## Slots -/

/-- The headroom of a slot (R44). -/
def Obligations.HeadroomComesFromTheCachedCopy : Prop :=
  ∀ (sl : Slot),
    (sl.state = .idle ∨ sl.grant = 0 → sl.headroom = 0) ∧
    (sl.state ≠ .idle → sl.grant ≠ 0 →
      (sl.kind = .capped →
        (sl.headroom : Int) = max 0
          ((sl.effective : Int) - sl.spentAtOpen - sl.printDelta - sl.stockDelta)) ∧
      (sl.kind = .prepaid →
        (sl.headroom : Int) = max 0 ((sl.effective : Int) - sl.printDelta - sl.stockDelta))) ∧
    (sl.effective ≤ 104857500 → sl.headroom ≤ 104857500)

/-- OPEN SLOT (R41, R42, R30). -/
def Obligations.OpenSlotCachesTheGrant : Prop :=
  ∀ (s : State) (i g level : Byte), s.configured = true →
    let gr := s.grant g.toNat
    let taken := ∃ j < 4, (s.slot j).state ≠ .idle ∧ (s.slot j).grant = g.toNat
    ∃ t, exec (.openSlot [i, g, level]) s = .next t ∧
      (3 < i.toNat ∨ 63 < g.toNat ∨ 3 < level.toNat → Refused s t .badArgument) ∧
      (i.toNat ≤ 3 → g.toNat ≤ 63 → level.toNat ≤ 3 →
        ((s.slot i.toNat).state ≠ .idle → Refused s t .slotOpen) ∧
        ((s.slot i.toNat).state = .idle →
          (g ≠ 0 → gr.present = false → Refused s t .grantAbsent) ∧
          (g ≠ 0 → gr.present = true → gr.level < level.toNat → Refused s t .level) ∧
          (g ≠ 0 → gr.present = true → level.toNat ≤ gr.level → taken → Refused s t .grantInUse) ∧
          (g = 0 ∨ (gr.present = true ∧ level.toNat ≤ gr.level ∧ ¬ taken) →
            t = { s with
              grants := t.grants, slots := t.slots
              port := s.portAfter ⟨.ok, beBytes 4 (t.slot i.toNat).headroom⟩, outs := t.outs } ∧
            t.slot i.toNat = { s.slot i.toNat with
              state := .opened, grant := g.toNat, level := level.toNat, kind := gr.kind
              effective := if gr.coarse then gr.amount * 100 else gr.amount, spentAtOpen := gr.spent
              printDelta := 0, stockDelta := 0, imprints := 0, stamps := 0, lateIssues := 0
              closeReason := .none, clampActed := false } ∧
            (∀ j < 4, j ≠ i.toNat → t.slot j = s.slot j) ∧ t.grants.period = s.grants.period ∧
            (g ≠ 0 → t.grant g.toNat = { gr with accessed := true }) ∧
            ∀ k < 64, k ≠ g.toNat ∨ k = 0 → t.grant k = s.grant k)))

/-- CLOSE SLOT of an OPEN slot with no run in the queue: the close of R51 with the usage returned as R34
gives (R48). -/
def Obligations.CloseSlotReturnsItsUsage : Prop :=
  ∀ (s : State) (i a : Byte), s.configured = true → i.toNat ≤ 3 → a.toNat ≤ 1 →
    (s.slot i.toNat).state = .opened → (∀ r ∈ s.runs.queue, r.slot ≠ i.toNat) →
    (s.slot i.toNat).grant < 64 →
    let sl := s.slot i.toNat
    let gr := s.grant sl.grant
    let clamp := sl.grant ≠ 0 ∧ gr.kind = .prepaid ∧ gr.amount < sl.printDelta + sl.stockDelta
    ∃ t, exec (.closeSlot [i, a]) s = .next t ∧
      t = { s with grants := t.grants, slots := t.slots, port := t.port, outs := t.outs } ∧
      t.slot i.toNat = { sl with
        state := .idle, boundA := false, boundB := false, run := none, closeReason := .close
        clampActed := decide clamp } ∧
      (∀ j < 4, j ≠ i.toNat → t.slot j = s.slot j) ∧ t.grants.period = s.grants.period ∧
      (∀ g < 64, g ≠ sl.grant ∨ g = 0 → t.grant g = s.grant g) ∧
      (sl.grant ≠ 0 → t.grant sl.grant = { gr with
        spent := min (gr.spent + (sl.printDelta + sl.stockDelta)) 4294967295
        imprints := min (gr.imprints + sl.imprints) 4294967295
        stamps := min (gr.stamps + sl.stamps) 4294967295
        amount :=
          if gr.kind = .prepaid then gr.amount - (sl.printDelta + sl.stockDelta) else gr.amount }) ∧
      (clamp → t.alarm .grantShort = true) ∧
      t.port = { s.portAfter ⟨.ok, beBytes 1 0 ++ beBytes 4 sl.printDelta ++ beBytes 4 sl.stockDelta ++
          beBytes 4 sl.imprints ++ beBytes 4 sl.stamps ++ beBytes 4 sl.lateIssues ++
          beBytes 1 (if clamp then 1 else 0)⟩ with alarms := t.port.alarms } ∧
      (¬ clamp → t.port.alarms = s.port.alarms)

/-- CLOSE SLOT's refusals, and its abandon (R48, R49, R92, R94, R51): the slot's runs leave ABANDONED in
queue order, one whose imprint is in flight becomes STOPPING, and the slot closes at once with its usage
returned (R34) when none is left; the walker is told of each end in turn. What then stands is spelled
out where the walker takes no part. Stated where no other run starts between two of these ends: the runs
that stay cannot start, or those that leave stand before them; what follows their start is the model's
order of one command's ends (assumption log 16). The places of the
figures a CLOSING slot does not return are filled as assumption log 8 has it. -/
def Obligations.CloseSlotWaitsForItsRuns : Prop :=
  ∀ (s : State) (i a : Byte), s.configured = true →
    let sl := s.slot i.toNat
    ∃ t, exec (.closeSlot [i, a]) s = .next t ∧
      (3 < i.toNat ∨ 1 < a.toNat → Refused s t .badArgument) ∧
      (i.toNat ≤ 3 → a.toNat ≤ 1 →
        (sl.state = .idle → Refused s t .slotIdle) ∧
        (sl.state = .closing → a = 0 → Refused s t .slotClosing) ∧
        (sl.state = .opened → a = 0 → (∃ r ∈ s.runs.queue, r.slot = i.toNat) →
          Refused s t .slotBusy) ∧
        (sl.state ≠ .idle → a = 1 → (∃ r ∈ s.runs.queue, r.slot = i.toNat) → QueueLaw s →
          let goes (r : Run) : Bool := r.slot == i.toNat && !r.underWay
          let gone := s.runs.queue.filter goes
          let stay := (s.runs.queue.filter fun r => !goes r).map fun r =>
            if r.slot = i.toNat ∧ r.state = .printing then
              { r with state := .stopping, pendingEnd := some .abandoned }
            else r
          let gr := s.grant sl.grant
          let clamp := sl.grant ≠ 0 ∧ gr.kind = .prepaid ∧ gr.amount < sl.printDelta + sl.stockDelta
          let left := ∀ r ∈ stay, r.slot ≠ i.toNat
          let answer : Response := ⟨.ok,
            if left then
              beBytes 1 0 ++ beBytes 4 sl.printDelta ++ beBytes 4 sl.stockDelta ++
              beBytes 4 sl.imprints ++ beBytes 4 sl.stamps ++ beBytes 4 sl.lateIssues ++
              beBytes 1 (if clamp then 1 else 0)
            else beBytes 1 2 ++ List.replicate 20 255 ++ [Config.absentFieldByte 0]⟩
          NoStart { s with runs := { s.runs with queue := stay } } ∨ s.runs.queue = gone ++ stay →
          (∃ m : State,
            RunsEnd .abandoned gone
              (({ s with
                runs := { s.runs with
                  queue := s.runs.queue.map fun r =>
                    if r.slot = i.toNat ∧ r.state = .printing then
                      { r with state := .stopping, pendingEnd := some .abandoned }
                    else r }
                port := s.portAfter answer } : State).setSlot i.toNat
                  { sl with state := .closing, closeReason := .abandon }) m ∧
            ∀ n, Starts n m t) ∧
          ((∀ r ∈ gone, WalkerApart s r) → ∃ m : State,
            m = { s with
              runs := { s.runs with
                queue := stay
                finished := (gone.map fun r =>
                  (⟨r.id, r.source, r.slot, .abandoned, r.latched, r.printed, r.refunded,
                    r.spoiled⟩ : Finished)).foldl
                  (fun l f => (if 8 ≤ l.length then l.drop 1 else l) ++ [f]) s.runs.finished
                endedCount := (s.runs.endedCount + gone.length) % 65536 }
              slots := m.slots
              grants :=
                if left then (s.setGrant sl.grant (gr.takeUsage sl)).grants else s.grants
              port := m.port } ∧
            m.slot i.toNat =
              (if left then { sl with
                state := .idle, boundA := false, boundB := false, run := none
                closeReason := .abandon, clampActed := decide clamp }
              else { sl with
                state := .closing, closeReason := .abandon
                run := if gone.any fun r => sl.run == some r.id then none else sl.run }) ∧
            (∀ j < 4, j ≠ i.toNat → m.slot j = s.slot j) ∧
            RaisedWithin (s.portAfter answer) m.port [.runEnded, .grantShort] ∧
            m.alarm .runEnded = (s.alarm .runEnded || decide (gone ≠ [])) ∧
            m.alarm .grantShort = (s.alarm .grantShort || decide (left ∧ clamp)) ∧
            ∀ n, Starts n m t)))

/-- BIND FEEDER (R54). -/
def Obligations.FeederIsBoundToOneSlot : Prop :=
  ∀ (s : State) (f i : Byte), ∃ t, exec (.bindFeeder [f, i]) s = .next t ∧
    (s.configured = false → Refused s t .notConfigured) ∧
    (s.configured = true →
      (1 < f.toNat ∨ (3 < i.toNat ∧ i.toNat ≠ 255) → Refused s t .badArgument) ∧
      (f.toNat ≤ 1 → i.toNat = 255 →
        t = { s with slots := t.slots, port := s.portAfter ⟨.ok, []⟩, outs := t.outs } ∧
        ∀ j < 4, t.slot j =
          if f = 0 then { s.slot j with boundA := false } else { s.slot j with boundB := false }) ∧
      (f.toNat ≤ 1 → i.toNat ≤ 3 →
        ((s.slot i.toNat).state = .idle → Refused s t .slotIdle) ∧
        ((s.slot i.toNat).state = .closing → Refused s t .slotClosing) ∧
        ((s.slot i.toNat).state = .opened →
          t = { s with slots := t.slots, port := s.portAfter ⟨.ok, []⟩, outs := t.outs } ∧
          ∀ j < 4, t.slot j =
            if f = 0 then { s.slot j with boundA := decide (j = i.toNat) }
            else { s.slot j with boundB := decide (j = i.toNat) })))

/-! ## Runs -/

/-- START RUN: its checks (R78), the id and the place of an accepted run that has to wait (R77, R79). -/
def Obligations.StartRunIsCheckedAndAppended : Prop :=
  ∀ (s : State) (p : List Byte), s.configured = true → 10 ≤ p.length → p.length ≤ 60 →
    let slot := field p 0 1
    let tariff := field p 1 1
    let flags := field p 9 1
    let continuous := flags / 32 % 2 = 1
    let ok := (tariff ≤ 31 ∨ (tariff = 255 ∧ 1 ≤ field p 6 3 ∧ field p 6 3 ≤ 999999)) ∧
      field p 2 2 ≤ 30000 ∧ (continuous ∨ (1 ≤ field p 4 2 ∧ field p 4 2 ≤ 9999)) ∧
      p.length ≤ 18 ∧ (∀ b ∈ p.drop 10, 1 ≤ b.toNat ∧ b.toNat ≤ 126) ∧ flags % 32 = 0 ∧
      ¬ (128 ≤ flags ∧ continuous)
    ∃ t, exec (.startRun p) s = .next t ∧
      (3 < slot → Refused s t .badArgument) ∧
      (slot ≤ 3 →
        ((s.slot slot).state = .idle → Refused s t .slotIdle) ∧
        ((s.slot slot).state = .closing → Refused s t .slotClosing) ∧
        ((s.slot slot).state = .opened →
          ((s.slot slot).grant = 0 → Refused s t .nullGrant) ∧
          ((s.slot slot).grant ≠ 0 →
            (¬ ok → Refused s t .badArgument) ∧
            (ok → 8 ≤ s.runs.queue.length → Refused s t .queueFull) ∧
            (ok → s.runs.queue.length < 8 → MustWait s →
              t = { s with
                runs := t.runs, port := s.portAfter ⟨.ok, beBytes 1 s.newRunId⟩, outs := t.outs } ∧
              Appended s t
                ⟨0, .command, slot, tariff, if tariff = 255 then some (field p 6 3) else none,
                  field p 2 2, if continuous then none else some (field p 4 2),
                  decide (flags / 64 % 2 = 1), decide (128 ≤ flags), (p.drop 10).map (·.toNat),
                  0, 0, 0, 0, [], .queued, none⟩))))

/-- START RUN on an empty queue: the accepted run takes the counter's id and is considered for start at
once (R77, R79, R81). It is priced, by its direct value or its tariff code; ends for want of a value or
of its whole credit; or its first imprint is authorised, or it ends by the first check that fails, the
one against the USED maximum entering EXHAUSTED (R18, R53, R70, R74, R82 to R84). Start and first
authorisation are one step, so that no lock comes between them: the model's choice (R177, assumption log
53). -/
def Obligations.FirstImprintIsAuthorised : Prop :=
  ∀ (s : State) (p : List Byte), s.configured = true → 10 ≤ p.length → p.length ≤ 60 →
    field p 0 1 ≤ 3 → (s.slot (field p 0 1)).state = .opened → (s.slot (field p 0 1)).grant ≠ 0 →
    StartRunOk p → s.runs.queue = [] →
    let id := s.runs.nextId
    ∃ t, exec (.startRun p) s = .next t ∧
      ∀ n, Starts n
        { s with
          runs := { s.runs with
            queue := [startRunOf p id], nextId := if 255 ≤ id then 1 else id + 1 }
          port := s.portAfter ⟨.ok, beBytes 1 id⟩ } t

/-- STOP RUN (R92 to R94): a run whose imprint is in flight becomes STOPPING, a STOPPING run stays so,
and a QUEUED or JAMMED run ends at once, the head that then stands being considered for start. RESUME RUN
(R91): only a JAMMED run; its next imprint is authorised, or the run ends by the first check that fails,
the one against the USED maximum entering EXHAUSTED (R18). -/
def Obligations.StopAndResumeActOnTheRun : Prop :=
  ∀ (s : State) (id : Byte), s.configured = true → QueueLaw s →
    (∃ t, exec (.stopRun [id]) s = .next t ∧
        ((∀ r ∈ s.runs.queue, r.id ≠ id.toNat) → Refused s t .noEntry) ∧
        ∀ r ∈ s.runs.queue, r.id = id.toNat →
          (r.state = .printing →
            t = { s with
              runs := { s.runs with
                queue := { r with state := .stopping, pendingEnd := some .stopped } ::
                  s.runs.queue.drop 1 }
              port := s.portAfter ⟨.ok, beBytes 1 3⟩, outs := t.outs }) ∧
          (r.state = .stopping →
            t = { s with port := s.portAfter ⟨.ok, beBytes 1 3⟩, outs := t.outs }) ∧
          (r.state = .queued ∨ r.state = .jammed → r.slot ≤ 3 →
            ∃ m, RunEnds { s with port := s.portAfter ⟨.ok, beBytes 1 4⟩ } m r .stopped ∧
              ∀ n, Starts n m t)) ∧
    (∃ t, exec (.resumeRun [id]) s = .next t ∧
        ((∀ r ∈ s.runs.queue, r.id ≠ id.toNat) → Refused s t .noEntry) ∧
        ∀ r ∈ s.runs.queue, r.id = id.toNat →
          (r.state ≠ .jammed → Refused s t .busy) ∧
          (r.state = .jammed → r.slot ≤ 3 → ∀ n,
            ImprintNext (Starts n)
              { s with
                runs := { s.runs with
                  queue := { r with state := .printing } :: s.runs.queue.drop 1 }
                port := s.portAfter ⟨.ok, []⟩ }
              t { r with state := .printing }))

/-- The end of the sending (R85), and an outcome event while no imprint is ENABLED, which acts on no
credit (R86). What the rise leaves of its line's qualifier (R186) is the model's reading (assumption log
23). -/
def Obligations.SendingEndsAndLateOutcomesAreAlarmed : Prop :=
  ∀ (s : State),
    (∀ f ∈ s.runs.inFlight, f.phase = .sending → ∃ t, exec .imprintSendingEnd s = .next t ∧
      t = { s with
        runs := { s.runs with
          inFlight := some { f with phase := .enabled }, sending := [], sendTimer := none
          mechTimer := some 3000 }
        outs := t.outs } ∧
      t.outs.printEnable = true) ∧
    ((∀ f ∈ s.runs.inFlight, f.phase = .sending) →
      (∃ t, exec .doneRise s = .next t ∧
        t = { s with lines := linesTaken s .done true, port := t.port, outs := t.outs } ∧
        RaisedWithin s.port t.port [.lateOutcome] ∧ t.alarm .lateOutcome = true) ∧
      (∃ t, exec .faultRise s = .next t ∧
        t = { s with lines := linesTaken s .fault true, port := t.port, outs := t.outs } ∧
        RaisedWithin s.port t.port [.lateOutcome] ∧ t.alarm .lateOutcome = true) ∧
      (∃ t, exec .mechanismTimerExpiry s = .next t ∧
        t = { s with runs := { s.runs with mechTimer := none }, port := t.port, outs := t.outs } ∧
        RaisedWithin s.port t.port [.lateOutcome] ∧ t.alarm .lateOutcome = true))

/-- DONE with an imprint ENABLED (R87, R10, R76): the credit is used; a STOPPING run ends with its pending
end, a counted run with its last imprint ends COMPLETE, and the head that then stands is considered for
start (R94); any other run goes on with its next imprint, or ends by the first check that fails (R83),
in the same step (R177; the model's choice, assumption log 53).
What the rise leaves of the DONE qualifier (R186) is the model's reading (assumption log 23). -/
def Obligations.DoneUsesTheCreditAndGoesOn : Prop :=
  ∀ (s : State), QueueLaw s → ∀ f ∈ s.runs.inFlight, f.phase = .enabled →
    ∀ r ∈ s.runs.queue.head?, r.slot ≤ 3 →
    let r1 := { r with printed := min (r.printed + 1) 4294967295 }
    let last := ∃ c ∈ r.count, c ≤ r1.printed
    let paid : State := { s with
      acct := { s.acct with held := 0, used := s.acct.used + s.acct.held }
      runs := { s.runs with
        queue := r1 :: s.runs.queue.drop 1, inFlight := none, mechTimer := none }
      lines := linesTaken s .done true }
    ∃ t, exec .doneRise s = .next t ∧
      (r.state = .stopping ∨ last →
        ∃ m, RunEnds paid m r1
            (if r.state = .stopping then r.pendingEnd.getD .stopped else .complete) ∧
          ∀ n, Starts n m t) ∧
      (r.state = .printing → ¬ last → ∀ n, ImprintNext (Starts n) paid t r1)

/-- FAULT and the mechanism timer with an imprint ENABLED (R88 to R90, R10): with CLEAN high the credit
and the charge come back, else, and at the timer, the credit counts as spoiled, and the timer raises
MECH_TIMEOUT; the run is JAMMED, or ends when it was STOPPING, and the head that then stands is considered
for start (R94). What the rise leaves of the FAULT qualifier (R186) is the model's reading (assumption log
23). -/
def Obligations.FailedImprintsAreRefundedOrSpoiled : Prop :=
  ∀ (s : State), QueueLaw s → ∀ f ∈ s.runs.inFlight, f.phase = .enabled →
    ∀ r ∈ s.runs.queue.head?, r.slot ≤ 3 →
    let sl := s.slot r.slot
    let after (e : Instr) (acct : Accounts) (run : Run) : State := { s with
      acct := acct
      runs := { s.runs with
        queue := run :: s.runs.queue.drop 1, inFlight := none, mechTimer := none }
      lines := if e = .faultRise then linesTaken s .fault true else s.lines }
    let backRun := { r with
      refunded := min (r.refunded + 1) 4294967295
      voids := (if 8 ≤ r.voids.length then r.voids.drop 1 else r.voids) ++ [f.number] }
    let back (run : Run) : State :=
      (after .faultRise { s.acct with held := 0, avail := s.acct.avail + s.acct.held } run).setSlot
        r.slot { sl with
          printDelta := sl.printDelta - s.acct.held, imprints := sl.imprints - 1 }
    let lostRun := { r with spoiled := min (r.spoiled + 1) 4294967295 }
    let lost (e : Instr) (run : Run) : State := after e { s.acct with
      held := 0, used := s.acct.used + s.acct.held, spoiled := s.acct.spoiled + s.acct.held } run
    (s.lines.clean.level = true → ∃ t, exec .faultRise s = .next t ∧
      (r.state = .printing →
        t = { back { backRun with state := .jammed } with
          bus := t.bus, share := t.share, port := t.port, outs := t.outs } ∧
        NeighboursActed (back { backRun with state := .jammed }) t ∧ t.alarm .jammed = true ∧
        RaisedWithin s.port t.port (.jammed :: neighbourAlarms)) ∧
      (r.state = .stopping →
        ∃ m u, m = { back backRun with bus := m.bus, share := m.share, port := m.port } ∧
          NeighboursActed (back backRun) m ∧ RaisedWithin s.port m.port neighbourAlarms ∧
          RunEnds m u backRun (r.pendingEnd.getD .stopped) ∧ ∀ n, Starts n u t)) ∧
    (∀ e ∈ [Instr.faultRise, .mechanismTimerExpiry],
      (e = .faultRise → s.lines.clean.level = false) → ∃ t, exec e s = .next t ∧
      (e = .mechanismTimerExpiry → t.alarm .mechTimeout = true) ∧
      (r.state = .printing →
        t = { lost e { lostRun with state := .jammed } with port := t.port, outs := t.outs } ∧
        t.alarm .jammed = true ∧
        RaisedWithin s.port t.port
          (if e = .faultRise then [.jammed] else [.jammed, .mechTimeout])) ∧
      (r.state = .stopping →
        ∃ m u, RunEnds (lost e lostRun) m lostRun (r.pendingEnd.getD .stopped) ∧
          (∀ n, Starts n m u) ∧ t = { u with port := t.port } ∧
          RaisedWithin u.port t.port (if e = .faultRise then [] else [.mechTimeout])))

/-! ## Jobs -/

/-- WRITE JOB (R98, R99). -/
def Obligations.WriteJobWritesItsBytes : Prop :=
  ∀ (s : State) (p : List Byte), s.configured = true → 2 ≤ p.length → p.length ≤ 60 →
    ∃ t, exec (.writeJob p) s = .next t ∧
      (4095 < field p 0 2 ∨ p.length = 2 ∨ 58 < p.length → Refused s t .badArgument) ∧
      (field p 0 2 ≤ 4095 → 2 < p.length → p.length ≤ 58 →
        t = { s with
          job := { s.job with memory := t.job.memory }, port := s.portAfter ⟨.ok, []⟩
          outs := t.outs } ∧
        (∀ k < p.length - 2,
          some (t.job.memory.read ((field p 0 2 + k) % 4096)) = p[k + 2]?) ∧
        (∀ a < 4096, (∀ k < p.length - 2, a ≠ (field p 0 2 + k) % 4096) →
          t.job.memory.read a = s.job.memory.read a) ∧
        (s.job.memory.wf = true → t.job.memory.wf = true))

/-- A job line is read as it is laid out (R100, R101, R105, R193): the parts of a line at an address are
read from its bytes, and only from them; anything else is a wrong line. -/
def Obligations.JobLinesDecodeAsLaidOut : Prop :=
  ∀ (m : Memory) (a : Nat) (c : LineCopy), a < 4096 →
    (parseLine m a c.allOrNone c.autoClose = some c ↔
      LineInRange c ∧ m.jobBytes a (jobLineBytes c).length = jobLineBytes c)

/-- START JOB (R104 to R106): the walker made new, its first line fetched and its run appended, and the
head run considered for start (R79, R81). The answer shows the walker after the append. Where both
refusals apply BAD_ARGUMENT comes before BUSY: the model's choice (assumption log 43). That the latched
flags read clear after a wrong first line is the model's reading of "The latched flags of any earlier
chain are discarded" (assumption log 14). -/
def Obligations.StartJobFetchesTheFirstLine : Prop :=
  ∀ (s : State) (a1 a2 flags : Byte), s.configured = true →
    let a := a1.toNat * 256 + a2.toNat
    let w := s.job.walker
    ∃ t, exec (.startJob [a1, a2, flags]) s = .next t ∧
      (4095 < a ∨ flags.toNat % 64 ≠ 0 → Refused s t .badArgument) ∧
      (a ≤ 4095 → flags.toNat % 64 = 0 →
        (w.state = .running ∨ w.state = .waiting ∨ w.state = .held → Refused s t .busy) ∧
        (w.state = .idle ∨ w.state = .done ∨ w.state = .faulted → QueueLaw s →
          ∃ u : State,
            u = { s with
              job := { s.job with walker := u.job.walker }
              runs := { s.runs with queue := u.runs.queue, nextId := u.runs.nextId }
              port := u.port } ∧
            LineFetched s u
              { w with
                heldReason := .none, stopReason := .none, stopAddress := 0, haltPending := false
                linesDone := 0, latchedAllOrNone := false, latchedAutoClose := false }
              a (decide (flags.toNat / 64 % 2 = 1)) (decide (128 ≤ flags.toNat)) ∧
            RaisedWithin
              (s.portAfter ⟨.ok,
                beBytes 1 u.job.walker.state.code ++ beBytes 1 (u.job.walker.run.getD 0) ++
                (if u.job.walker.state = .faulted then
                  beBytes 1 u.job.walker.stopReason.code ++ beBytes 2 u.job.walker.stopAddress
                else beBytes 1 0 ++ [255, 255])⟩)
              u.port [.jobStopped] ∧
            ∀ n, Starts n u t))

/-- RESUME JOB and HALT JOB (R109, R110, R92, R94). The answer of RESUME JOB carries the walker state after the
whole command and the id of the run appended (assumption log 13). That a halt in HELD keeps the held
reason is the model's reading (assumption log 15). -/
def Obligations.HeldAndHaltedWalkersAnswer : Prop :=
  ∀ (s : State), s.configured = true →
    let w := s.job.walker
    (∃ t, exec (.resumeJob []) s = .next t ∧
      (w.state ≠ .held → Refused s t .busy) ∧
      (w.state = .held → QueueLaw s →
        ∃ u : State,
          u = { s with
            job := { s.job with walker := u.job.walker }
            runs := { s.runs with queue := u.runs.queue, nextId := u.runs.nextId }
            port := u.port } ∧
          (w.heldReason = .linkHold →
            LineFetched s u { w with heldReason := .none } w.nextAddress w.latchedAllOrNone
              w.latchedAutoClose) ∧
          (w.heldReason = .noCredit → ∀ c ∈ w.copy,
            LineAppended s u { w with heldReason := .none } c) ∧
          RaisedWithin (s.portAfter t.port.response) u.port [.jobStopped] ∧
          t.port.response =
            ⟨.ok, beBytes 1 t.job.walker.state.code ++ beBytes 1 (u.job.walker.run.getD 0)⟩ ∧
          ∀ n, Starts n u t)) ∧
    (∃ t, exec (.haltJob []) s = .next t ∧
      (w.state = .idle →
        t = { s with port := s.portAfter ⟨.ok, beBytes 1 0⟩, outs := t.outs }) ∧
      (w.state = .waiting ∨ w.state = .held ∨ w.state = .done ∨ w.state = .faulted →
        t = { s with
          job := { s.job with walker := { w with state := .idle, haltPending := false } }
          port := s.portAfter ⟨.ok, beBytes 1 0⟩, outs := t.outs }) ∧
      (w.state = .running → w.haltPending = true →
        t = { s with port := s.portAfter ⟨.ok, beBytes 1 1⟩, outs := t.outs }) ∧
      (w.state = .running → w.haltPending = false → QueueLaw s → ∀ r ∈ s.runs.queue.head?,
        w.run = some r.id → r.state = .printing →
        t = { s with
          job := { s.job with walker := { w with haltPending := true } }
          runs := { s.runs with
            queue := { r with state := .stopping, pendingEnd := some .halted } ::
              s.runs.queue.drop 1 }
          port := s.portAfter ⟨.ok, beBytes 1 1⟩, outs := t.outs }) ∧
      (w.state = .running → w.haltPending = false → QueueLaw s → ∀ r ∈ s.runs.queue.head?,
        w.run = some r.id → r.state = .stopping →
        t = { s with
          job := { s.job with walker := { w with haltPending := true } }
          port := s.portAfter ⟨.ok, beBytes 1 1⟩, outs := t.outs }) ∧
      (w.state = .running → w.haltPending = false → QueueLaw s → ∀ r ∈ s.runs.queue,
        w.run = some r.id → r.state = .queued ∨ r.state = .jammed → r.slot ≤ 3 →
        ∃ m, OnlyRunLeft
            { s with
              job := { s.job with
                walker := { w with run := none, state := .idle, haltPending := false } }
              port := s.portAfter ⟨.ok, beBytes 1 0⟩ } m r .halted ∧
          ∀ n, Starts n m t))

/-- What the walker does when a run ends (R94, R106 to R108, R110), as WalkerTold has it: at the shared end
of a run, whatever its reason and whatever row ended it; and on a DONE that ends the head run, a run that
ends at the check against the USED maximum entering EXHAUSTED first (R18), the head that then stands being
considered for start last. The ends by STOP RUN, an abandon, FAULT and the mechanism timer, at a start and
on RESUME RUN go through the same relation in their own statements. What the rise leaves of the DONE
qualifier (R186) is the model's reading (assumption log 23), and that no START RUN comes before the
walker the model's choice (assumption log 48). -/
def Obligations.WalkerFollowsItsRunsEnd : Prop :=
  ∀ (s : State) (cause : EndReason), ((s.runs.queue.map (·.id)).Nodup →
      ∀ r ∈ s.runs.queue, r.slot ≤ 3 → RunEnds s (s.runEnd r.id cause) r cause) ∧
    (QueueLaw s → ∀ f ∈ s.runs.inFlight, f.phase = .enabled →
    ∀ r ∈ s.runs.queue.head?, r.slot ≤ 3 →
    let r1 := { r with printed := min (r.printed + 1) 4294967295 }
    let last := ∃ n ∈ r.count, n ≤ r1.printed
    let paid : State := { s with
      acct := { s.acct with held := 0, used := s.acct.used + s.acct.held }
      runs := { s.runs with
        queue := r1 :: s.runs.queue.drop 1, inFlight := none, mechTimer := none }
      lines := linesTaken s .done true }
    let reason :=
      if r.state = .stopping then r.pendingEnd.getD .stopped
      else if last then .complete else authoriseEnd paid r
    let usedUp := r.state ≠ .stopping ∧ ¬ last ∧ OverUsed paid r
    r.state = .stopping ∨ last ∨ (¬ MayAuthorise paid r ∧ s.acct.mode ≠ .unconfigured) →
    ∃ t, exec .doneRise s = .next t ∧ ∃ e v u : State,
      (usedUp → ExhaustedEntered paid e) ∧ (¬ usedUp → e = paid) ∧ OnlyRunLeft e v r1 reason ∧
      WalkerTold v u r1 reason ∧ ∀ n, Starts n u t)

/-! ## Stamp stock -/

/-- MOUNT REEL (R133 to R136) and UNMOUNT REEL (R141). Which entry a full table loses is chosen in the
change order as it stands before the feeder of an EMPTY entry is cleared: the model's reading (assumption
log 21). -/
def Obligations.ReelsAreMountedAndUnmounted : Prop :=
  ∀ (s : State) (p : List Byte) (code : Byte), s.configured = true → StockLaw s →
    (p.length = 9 →
      let id := field p 1 4
      let denomination := field p 5 2
      let claimed := field p 7 2
      let f := if field p 0 1 = 0 then Feeder.a else Feeder.b
      let bad := 1 < field p 0 1 ∨ id = 0 ∨ denomination = 0 ∨ claimed = 0
      ∃ t, exec (.mountReel p) s = .next t ∧
        (bad → Refused s t .badArgument) ∧
        (¬ bad →
          ((∃ r ∈ s.stock.table, r.state = .mounted ∧ r.feeder = some f) →
            Refused s t .feederOccupied) ∧
          ((∀ r ∈ s.stock.table, r.state = .mounted → r.feeder ≠ some f) →
            (∀ r ∈ s.stock.table, r.id = id →
              (r.state ≠ .released → Refused s t .reelKnown) ∧
              (r.state = .released →
                let m := { r with
                  state := .mounted, feeder := some f, check := .verified
                  countAtLoad := r.remaining, askWindow := none }
                ReelMounted s t f m (decide (claimed ≠ r.remaining ∨ denomination ≠ r.denomination))
                  (noteOf .mounted m))) ∧
            ((∀ r ∈ s.stock.table, r.id ≠ id) →
              (∀ n ∈ s.stock.released.find? (·.reelId == id),
                let m : Reel :=
                  ⟨id, n.denomination, n.remaining, n.remaining, 0, .mounted, some f, .verified, none⟩
                ReelMounted s t f m (decide (claimed ≠ n.remaining ∨ denomination ≠ n.denomination))
                  (noteOf .mounted m)) ∧
              ((∀ n ∈ s.stock.released, n.reelId ≠ id) →
                ReelMounted s t f
                  ⟨id, denomination, claimed, claimed, 0, .mounted, some f, .asking, some 1000⟩
                  false (.reelAsk (BitVec.ofNat 32 id))))))) ∧
    (let f := if code = 0 then Feeder.a else Feeder.b
      ∃ t, exec (.unmountReel [code]) s = .next t ∧
        (1 < code.toNat → Refused s t .badArgument) ∧
        (code.toNat ≤ 1 →
          ((∀ r ∈ s.stock.table, r.feeder ≠ some f) → Refused s t .feederEmpty) ∧
          ∀ r ∈ s.stock.table, r.feeder = some f →
            (r.state = .empty →
              t = { s with
                stock := { s.stock with table := otherReels s r.id ++ [{ r with feeder := none }] }
                port := s.portAfter ⟨.ok, beBytes 1 2⟩, outs := t.outs }) ∧
            (r.state = .mounted → r.check = .conflict →
              t = { s with
                stock := { s.stock with table := otherReels s r.id }
                port := s.portAfter ⟨.ok, beBytes 1 3⟩, outs := t.outs }) ∧
            (r.state = .mounted → r.check ≠ .conflict →
              t = { s with
                stock := { s.stock with
                  table := otherReels s r.id ++ [{ r with
                    state := .released, feeder := none, askWindow := none
                    check := if r.check = .asking then .unverified else r.check }] }
                bus := { s.bus with tx := t.bus.tx }, port := t.port, outs := t.outs } ∧
              HandedOver s t (noteOf .released r) ∧
              RaisedWithin (s.portAfter ⟨.ok, beBytes 1 1⟩) t.port [.txOverflow])))

/-- An ISSUE pulse (R143, R144, R46, R132): one stamp fewer on the reel mounted in the feeder, charged to
the slot the feeder is bound to. What the rise leaves of the ISSUE qualifier (R186) is the model's reading
(assumption log 23); past 2^48 - 1 the stamps issued value is a free value (assumption log 7). -/
def Obligations.IssueCountsOneStamp : Prop :=
  ∀ (s : State), StockLaw s → FeedersBoundOnce s → ∀ f ∈ [Feeder.a, .b],
    ∃ t, exec (.issueRise f) s = .next t ∧
      t.lines = linesTaken s (if f = .a then .issueA else .issueB) true ∧
      ((∀ r ∈ s.stock.table, r.state = .mounted → r.feeder = some f → r.remaining = 0) →
        t = { s with
          stock := { s.stock with unaccounted := min (s.stock.unaccounted + 1) 4294967295 }
          lines := t.lines, port := t.port, outs := t.outs } ∧
        RaisedWithin s.port t.port [.unaccountedIssue] ∧ t.alarm .unaccountedIssue = true) ∧
      ∀ r ∈ s.stock.table, r.state = .mounted → r.feeder = some f → 0 < r.remaining →
        let m := { r with
          remaining := r.remaining - 1, issued := min (r.issued + 1) 4294967295 }
        t = { s with
          slots := t.slots
          stock := { s.stock with
            table := t.stock.table, issuedValue := t.stock.issuedValue
            unassigned := t.stock.unassigned }
          bus := { s.bus with tx := t.bus.tx }, lines := t.lines, port := t.port
          outs := t.outs } ∧
        (s.stock.issuedValue + r.denomination ≤ 281474976710655 →
          t.stock.issuedValue = s.stock.issuedValue + r.denomination) ∧
        (1 < r.remaining →
          t.stock.table = (s.stock.table.map fun q => if q.id = r.id then m else q) ∧
          t.bus = s.bus) ∧
        (r.remaining = 1 →
          t.stock.table = otherReels s r.id ++ [{ m with
            state := .empty, askWindow := none
            check := if r.check = .asking then .unverified else r.check }] ∧
          t.alarm .reelEmpty = true ∧ HandedOver s t (noteOf .empty m)) ∧
        (∀ i < 4, (s.slot i).bound f = true → (s.slot i).grant ≠ 0 →
          t.stock.unassigned = s.stock.unassigned ∧
          t.slot i = { s.slot i with
            stockDelta := min ((s.slot i).stockDelta + r.denomination) 4294967295
            stamps := min ((s.slot i).stamps + 1) 4294967295
            lateIssues :=
              if s.outs.feed f then (s.slot i).lateIssues
              else min ((s.slot i).lateIssues + 1) 4294967295 } ∧
          (∀ j < 4, j ≠ i → t.slot j = s.slot j) ∧
          (s.outs.feed f = false → t.alarm .lateIssue = true)) ∧
        ((∀ i < 4, (s.slot i).bound f = true → (s.slot i).grant = 0) →
          t.stock.unassigned = min (s.stock.unassigned + 1) 4294967295 ∧
          ∀ j < 4, t.slot j = s.slot j) ∧
        RaisedWithin s.port t.port [.lateIssue, .reelEmpty, .txOverflow]

/-- Reel notes heard (R131, R137, R139, R140). That an entry which is CONFLICT already keeps its place is
the model's reading (assumption log 20). -/
def Obligations.ReelNotesAreTaken : Prop :=
  ∀ (s : State) (x : BitVec 5) (id : BitVec 32) (remaining denomination : BitVec 16),
    Heard s x → StockLaw s →
    (∀ c ∈ [Instr.reelNoteMounted x id remaining denomination,
        .reelNoteEmpty x id remaining denomination],
      ∃ t, exec c s = .next t ∧
      t = { s with stock := t.stock, bus := t.bus, port := t.port, outs := t.outs } ∧
      BusHeard s t x ∧
      t.stock = { s.stock with
        table := t.stock.table
        released := s.stock.released.filter fun n => n.reelId != id.toNat } ∧
      ((∀ r ∈ s.stock.table, r.id = id.toNat → r.state = .empty) →
        t.stock.table = s.stock.table ∧ t.port = s.port ∧ t.bus.tx = s.bus.tx) ∧
      (∀ r ∈ s.stock.table, r.id = id.toNat →
        (r.state = .released →
          t.stock.table = otherReels s r.id ∧ t.port = s.port ∧ t.bus.tx = s.bus.tx) ∧
        (r.state = .mounted → r.check = .asking →
          t.stock.table = otherReels s r.id ++ [{ r with check := .conflict, askWindow := none }] ∧
          HandedOver s t (noteOf .mounted r)) ∧
        (r.state = .mounted → r.check ≠ .asking → t.bus.tx = s.bus.tx ∧
          t.stock.table =
            (if r.check = .conflict then s.stock.table
            else otherReels s r.id ++ [{ r with check := .conflict }])) ∧
        (r.state = .mounted → t.alarm .reelConflict = true)) ∧
      RaisedWithin s.port t.port [.reelConflict, .txOverflow]) ∧
    (let full := remaining ≠ 0 ∧ denomination ≠ 0
    let note : ReleasedNote := ⟨id.toNat, remaining.toNat, denomination.toNat, x.toNat⟩
    let others := s.stock.released.filter fun n => n.reelId != id.toNat
    let listed :=
      if full then
        (if others.length < s.stock.released.length ∨ s.stock.released.length < 16 then others
        else s.stock.released.drop 1) ++ [note]
      else s.stock.released
    ∃ t, exec (.reelNoteReleased x id remaining denomination) s = .next t ∧
      t = { s with stock := t.stock, bus := t.bus, port := t.port, outs := t.outs } ∧
      BusHeard s t x ∧
      ((∀ r ∈ s.stock.table, r.id = id.toNat → r.state ≠ .mounted) →
        t.stock = { s.stock with released := listed } ∧ t.port = s.port ∧ t.bus.tx = s.bus.tx) ∧
      (∀ r ∈ s.stock.table, r.id = id.toNat → r.state = .mounted →
        t.stock = { s.stock with table := t.stock.table } ∧
        (r.check = .asking → ¬ full →
          t.stock = s.stock ∧ t.port = s.port ∧ t.bus.tx = s.bus.tx) ∧
        (r.check = .asking → full →
          let m := { r with
            check := .verified, askWindow := none, countAtLoad := remaining.toNat
            denomination := denomination.toNat, remaining := remaining.toNat - r.issued }
          t.alarm .adjusted = (s.alarm .adjusted ||
            decide (remaining.toNat ≠ r.countAtLoad ∨ denomination.toNat ≠ r.denomination)) ∧
          (r.issued < remaining.toNat →
            t.stock.table = otherReels s r.id ++ [m] ∧ HandedOver s t (noteOf .mounted m)) ∧
          (remaining.toNat ≤ r.issued →
            t.stock.table = otherReels s r.id ++ [{ m with state := .empty }] ∧
            HandedOver s t (noteOf .empty m) ∧ t.alarm .reelEmpty = true)) ∧
        (r.check = .verified → r.countAtLoad = remaining.toNat →
          r.denomination = denomination.toNat →
          t.stock = s.stock ∧ t.port = s.port ∧ t.bus.tx = s.bus.tx) ∧
        (r.check ≠ .asking → ¬ (r.check = .verified ∧ r.countAtLoad = remaining.toNat ∧
          r.denomination = denomination.toNat) →
          t.alarm .reelConflict = true ∧ t.bus.tx = s.bus.tx ∧
          t.stock.table =
            (if r.check = .conflict then s.stock.table
            else otherReels s r.id ++ [{ r with check := .conflict }]))) ∧
      RaisedWithin s.port t.port [.reelConflict, .adjusted, .reelEmpty, .txOverflow])

/-- REEL-ASK heard (R138), and the end of an ask window (R137). That a list note answers beside an EMPTY
entry is the model's reading of R138's rows in their order (assumption log 42). -/
def Obligations.ReelAskIsAnsweredAndTheWindowEnds : Prop :=
  ∀ (s : State) (x : BitVec 5) (id : BitVec 32), StockLaw s →
    (Heard s x → ∃ t, exec (.reelAsk x id) s = .next t ∧
      t = { s with bus := t.bus, port := t.port, outs := t.outs } ∧ BusHeard s t x ∧
      RaisedWithin s.port t.port [.txOverflow] ∧
      (s.bus.state = .silenced → t.port = s.port ∧ t.bus.tx = s.bus.tx) ∧
      (HeardWhole s x →
        (∀ r ∈ s.stock.table, r.id = id.toNat →
          (r.state = .mounted → HandedOver s t (noteOf .mounted r)) ∧
          (r.state = .released → HandedOver s t (noteOf .released r))) ∧
        ((∀ r ∈ s.stock.table, r.id = id.toNat → r.state = .empty) →
          (∀ n ∈ s.stock.released.find? (·.reelId == id.toNat),
            HandedOver s t (.reelNote .released id (BitVec.ofNat 16 n.remaining)
              (BitVec.ofNat 16 n.denomination))) ∧
          ((∀ n ∈ s.stock.released, n.reelId ≠ id.toNat) →
            t.port = s.port ∧ t.bus.tx = s.bus.tx)))) ∧
    (∃ t, exec (.askWindowExpiry id) s = .next t ∧
      ((∀ r ∈ s.stock.table, r.id = id.toNat → r.check = .asking → r.askWindow = none) →
        t = { s with outs := t.outs }) ∧
      ∀ r ∈ s.stock.table, r.id = id.toNat → r.check = .asking → r.askWindow ≠ none →
        t = { s with
          stock := { s.stock with
            table := otherReels s r.id ++ [{ r with check := .unverified, askWindow := none }] }
          bus := { s.bus with tx := t.bus.tx }, port := t.port, outs := t.outs } ∧
        HandedOver s t (noteOf .mounted r) ∧ RaisedWithin s.port t.port [.txOverflow])

/-! ## The branch bus -/

/-- The kind codes, identifiers and data bytes of the frames (R113, R193): every frame is read back from
what it is laid out as, and nothing else spells it. -/
def Obligations.BusFramesReadAsLaidOut : Prop :=
  (∀ (f : BusFrame) (station : Nat), 1 ≤ station → station ≤ 30 →
    f.identifier station < 2048 ∧ f.identifier station % 32 = station ∧ f.data.length ≤ 8 ∧
    busFrameOf (f.identifier station / 32) f.data = some f) ∧
  ∀ (kind : Nat) (d : List Byte) (f : BusFrame), busFrameOf kind d = some f →
    f.code = kind ∧ f.data = d

/-- The checks of a received frame (R114), the duplicate station (R119), a STANDING and the peer table
(R124, R126), and the ageing of a peer (R125; what it does to the age is assumption log 25). -/
def Obligations.FramesAreCheckedAndPeersKept : Prop :=
  ∀ (s : State) (f : RxFrame) (x : BitVec 5) (surplus : BitVec 24) (day : BitVec 16) (flags : Byte),
    (∃ t, exec (.frameIgnored f) s = .next t ∧
      (s.busReceives = false → t = { s with outs := t.outs }) ∧
      (s.busReceives = true → f.ignorable = true →
        f.extended = true ∨ f.remote = true ∨ s.station ≠ some (f.ident.toNat % 32) →
        t = { s with
          bus := { s.bus with ignored := min (s.bus.ignored + 1) 65535 }, outs := t.outs })) ∧
    (∃ t, exec (.duplicateStation f) s = .next t ∧
      (f.extended = false → f.remote = false → 1 ≤ f.ident.toNat % 32 → f.ident.toNat % 32 ≤ 30 →
        s.station = some (f.ident.toNat % 32) →
        (s.busReceives = true →
          RaisedWithin s.port t.port [.duplicateStation] ∧ t.alarm .duplicateStation = true) ∧
        t = { s with
          bus :=
            if s.busSends then { s.bus with state := .silenced, tx := [], standingTimer := none }
            else s.bus
          port := t.port, outs := t.outs } ∧
        (s.busReceives = false → t.port = s.port))) ∧
    (Heard s x → ∃ t, exec (.standing x surplus day flags) s = .next t ∧
      t = { s with bus := t.bus, port := t.port, outs := t.outs } ∧
      t.bus = { s.bus with tx := t.bus.tx, peers := t.bus.peers } ∧ QueueKept s t ∧
      ⟨x.toNat, surplus.toNat, day.toNat,
        ⟨flags.getLsbD 0, flags.getLsbD 1, flags.getLsbD 2, flags.getLsbD 3⟩, 0, .live⟩
          ∈ t.bus.peers ∧
      (∀ p ∈ s.bus.peers, p.station ≠ x.toNat → p ∈ t.bus.peers) ∧
      (∀ p ∈ t.bus.peers, p.station ≠ x.toNat → p ∈ s.bus.peers) ∧
      t.alarm .daySkew = (s.alarm .daySkew || decide (day.toNat ≠ s.rates.day)) ∧
      RaisedWithin s.port t.port [.daySkew, .txOverflow] ∧
      ∀ u ∈ s.share.unresolved, u.station = x.toNat → s.busSends = true →
        Queued t (.ask (BitVec.ofNat 8 x.toNat) (BitVec.ofNat 16 u.wantNo)
          (BitVec.ofNat 16 u.pledgeNo)) ∨
        t.alarm .txOverflow = true) ∧
    (∃ t, exec (.peerAgeing x) s = .next t ∧
      t = { s with
        bus := { s.bus with
          peers := s.bus.peers.map fun p =>
            if p.station = x.toNat then
              { p with liveness := .silent, age := max p.age (3 * s.intervalMs) }
            else p }
        outs := t.outs })

/-- The transmit queue (R120, R121): a frame handed over joins it behind every frame of a kind code not above
its own, is not added when it stands there already, and is discarded with TX_OVERFLOW from a full queue.
The controller's report on the frame it was sending (R116, R120): sent, the frame leaves and the first
own frame sent makes JOINING ACTIVE; not sent, it goes back to its place, but a STANDING for which a
newer one waits is dropped. The front of the order is loaded again. -/
def Obligations.LoadedFrameLeavesOrReturns : Prop :=
  ∀ (s : State) (f : BusFrame),
    let newer := ∃ e ∈ s.bus.tx, e.loaded = false ∧ e.frame.code = 48
    let frontLoaded (t : State) : Prop :=
      (∀ e ∈ t.bus.tx.head?, e.loaded = s.bus.controllerOn) ∧
      ∀ e ∈ t.bus.tx.drop 1, e.loaded = false
    (f.code ≠ 48 →
      let u := s.enqueue f
      (s.busSends = false ∨ Queued s f → u = s) ∧
      (s.busSends = true → ¬ Queued s f →
        (s.bus.tx.length < 16 → TransmitQueueLaw s →
          u = { s with bus := { s.bus with
            tx := (s.bus.tx.filter fun e => e.frame.code ≤ f.code) ++
              ⟨f, false⟩ :: s.bus.tx.filter fun e => f.code < e.frame.code } }) ∧
        (16 ≤ s.bus.tx.length → u = { s with port := u.port } ∧
          RaisedWithin s.port u.port [.txOverflow] ∧ u.alarm .txOverflow = true)) ∧
      HandedOver s (s.handOver f) f ∧ (s.handOver f).port = u.port ∧
      (s.handOver f).bus.tx.map (·.frame) = u.bus.tx.map (·.frame)) ∧
    (∃ t, exec .frameSent s = .next t ∧
      ((∀ e ∈ s.bus.tx, e.loaded = false) → t = { s with outs := t.outs }) ∧
      ((∃ e ∈ s.bus.tx, e.loaded = true) →
        (s.bus.state ≠ .joining →
          t = { s with bus := { s.bus with tx := t.bus.tx }, outs := t.outs } ∧
          t.bus.tx.map (·.frame) = (s.bus.tx.filter fun e => !e.loaded).map (·.frame) ∧
          frontLoaded t) ∧
        (s.bus.state = .joining →
          let m := { s with bus := { s.bus with
            state := .active, tx := s.bus.tx.filter fun e => !e.loaded } }
          t = { s with bus := t.bus, share := t.share, port := t.port, outs := t.outs } ∧
          WantsEvaluated m t ∧ RaisedWithin s.port t.port neighbourAlarms ∧
          (¬ WantConditions m →
            t.bus.tx.map (·.frame) = (s.bus.tx.filter fun e => !e.loaded).map (·.frame) ∧
            frontLoaded t)))) ∧
    (∃ t, exec .frameNotSent s = .next t ∧
      ((∀ e ∈ s.bus.tx, e.loaded = false) → t = { s with outs := t.outs }) ∧
      ((∃ e ∈ s.bus.tx, e.loaded = true) →
        t = { s with bus := { s.bus with tx := t.bus.tx }, outs := t.outs } ∧
        (¬ newer → t.bus.tx.map (·.frame) = s.bus.tx.map (·.frame)) ∧
        (newer → t.bus.tx.map (·.frame) =
          (s.bus.tx.filter fun e => !(e.loaded && e.frame.code == 48)).map (·.frame)) ∧
        frontLoaded t))

/-- Bus-off, BUS RESTART and the controller's return (R117, R118), and the STANDING sent on its interval
and on entering JOINING (R122, R123, R161). When what was announced has changed in a way peers act on (R123),
and how a STANDING is put into the queue (R121): a waiting one takes the new content in its place, a
loaded one stays, and a full queue discards it, the announced figures then staying (assumption log 17).
That a return reported in OFF is dropped is the model's choice (assumption log 47). -/
def Obligations.BusLeavesAndJoinsAgain : Prop :=
  ∀ (s : State),
    let figure := min (match s.acct.mode with
      | .active | .contactDue => s.acct.avail - (s.port.settings.map (·.reserve)).getD 0
      | .exhausted => s.acct.avail
      | _ => 0) 16777215
    let flags : StandingFlags :=
      ⟨s.share.want.isSome, decide (s.acct.mode = .contactDue),
        decide (s.acct.mode = .contactLocked), decide (s.acct.mode = .exhausted)⟩
    let standing : BusFrame :=
      .standing (BitVec.ofNat 24 figure) (BitVec.ofNat 16 s.rates.day)
        (BitVec.ofNat 8 (flags.wanting.toNat + 2 * flags.contactDue.toNat +
          4 * flags.contactLocked.toNat + 8 * flags.exhausted.toNat))
    let waits (e : TxEntry) : Bool := !e.loaded && e.frame.code == 48
    let placed := s.placeStanding
    let announced (tx : List TxEntry) : State :=
      { s with bus := { s.bus with tx := tx, announcedSurplus := figure, announcedFlags := flags } }
    (s.standingChanged = true ↔
      s.bus.announcedFlags.wanting ≠ flags.wanting ∨
      s.bus.announcedFlags.contactDue ≠ flags.contactDue ∨
      s.bus.announcedFlags.contactLocked ≠ flags.contactLocked ∨
      s.bus.announcedFlags.exhausted ≠ flags.exhausted ∨
      (s.bus.announcedSurplus < 100 ∧ 100 ≤ figure) ∨
      (100 ≤ s.bus.announcedSurplus ∧ figure < 100)) ∧
    ((∃ e ∈ s.bus.tx, waits e) →
      placed = announced (s.bus.tx.map fun e => if waits e then ⟨standing, false⟩ else e)) ∧
    ((∀ e ∈ s.bus.tx, ¬ waits e) →
      (s.bus.tx.length < 16 → TransmitQueueLaw s →
        placed = announced ((s.bus.tx.filter fun e => e.frame.code ≤ 48) ++
          ⟨standing, false⟩ :: s.bus.tx.filter fun e => 48 < e.frame.code)) ∧
      (16 ≤ s.bus.tx.length → placed = { s with port := placed.port } ∧
        RaisedWithin s.port placed.port [.txOverflow] ∧ placed.alarm .txOverflow = true)) ∧
    (∃ t, exec .busOff s = .next t ∧
      (s.busSends = false → t = { s with outs := t.outs }) ∧
      (s.busSends = true →
        t = { s with
          bus := { s.bus with state := .off, controllerOn := false, tx := [], standingTimer := none }
          port := t.port, outs := t.outs } ∧
        RaisedWithin s.port t.port [.busOff] ∧ t.alarm .busOff = true)) ∧
    (∃ t, exec .busControllerReturn s = .next t ∧
      (s.busSends = false → t = { s with outs := t.outs }) ∧
      (s.busSends = true →
        t = { s with
          bus := { s.bus with controllerOn := true, tx := t.bus.tx }, outs := t.outs } ∧
        t.bus.tx.map (·.frame) = s.bus.tx.map (·.frame) ∧
        (s.bus.tx ≠ [] → ∃ e ∈ t.bus.tx, e.loaded = true))) ∧
    (s.configured = true → ∃ t, exec (.busRestart []) s = .next t ∧
      (s.bus.state ≠ .off → Refused s t .busy) ∧
      (s.bus.state = .off → s.bus.tx = [] →
        t = { s with bus := t.bus, port := t.port, outs := t.outs } ∧
        t.bus = { s.bus with
          state := .joining, controllerOn := false, tx := t.bus.tx
          standingTimer := some s.intervalMs, announcedSurplus := figure
          announcedFlags := flags } ∧
        Queued t standing ∧
        (∀ u ∈ s.share.outRecord, Queued t u.settled ∨ t.alarm .txOverflow = true) ∧
        RaisedWithin (s.portAfter ⟨.ok, []⟩) t.port [.txOverflow])) ∧
    (∃ t, exec .standingTimerExpiry s = .next t ∧
      (s.bus.standingTimer = none → t = { s with outs := t.outs }) ∧
      (s.bus.standingTimer ≠ none → s.busSends = true →
        t = { s with bus := t.bus, port := t.port, outs := t.outs } ∧
        t.bus = { s.bus with
          tx := t.bus.tx, standingTimer := some s.intervalMs
          announcedSurplus := t.bus.announcedSurplus
          announcedFlags := t.bus.announcedFlags } ∧ QueueKept s t ∧
        (Queued t standing ∧ t.bus.announcedSurplus = figure ∧ t.bus.announcedFlags = flags ∨
          t.alarm .txOverflow = true) ∧
        (∀ u ∈ s.share.outRecord, Queued t u.settled ∨ t.alarm .txOverflow = true) ∧
        RaisedWithin s.port t.port [.txOverflow]))

/-! ## Credit between stations -/

/-- A WANT heard, and the backup delay (R158 to R160): the station that ranks first pledges at once, the
others wait with a DELAYED entry. -/
def Obligations.WantsAreAnsweredByRank : Prop :=
  ∀ (s : State) (x : BitVec 5) (wantNo : BitVec 16) (amount : BitVec 24),
    let held := s.share.pledges.length
    let known :=
      (∃ e ∈ s.share.pledges, e.requester = x.toNat ∧ e.wantNo = wantNo.toNat) ∨
      ∃ u ∈ s.share.outRecord, u.station = x.toNat ∧ u.wantNo = wantNo.toNat
    (HeardWhole s x → ∃ t, exec (.want x wantNo amount) s = .next t ∧
      (amount.toNat < 100 ∨ known ∨ ¬ Eligible s held →
        t = { s with bus := (s.hearPeer x.toNat).bus, outs := t.outs }) ∧
      (100 ≤ amount.toNat → ¬ known → Eligible s held → ¬ RanksFirst s x.toNat →
        t = { s with
          bus := (s.hearPeer x.toNat).bus
          share := { s.share with
            pledges := s.share.pledges ++ [⟨x.toNat, wantNo.toNat, amount.toNat, none, 0⟩] }
          outs := t.outs }) ∧
      (100 ≤ amount.toNat → ¬ known → Eligible s held → RanksFirst s x.toNat →
        PledgeMade (s.hearPeer x.toNat) t x wantNo amount.toNat fun o =>
          s.share.pledges ++ [⟨x.toNat, wantNo.toNat, amount.toNat, some o, 0⟩])) ∧
    (∃ t, exec (.backupDelayExpiry x wantNo) s = .next t ∧
      ((∀ e ∈ s.share.pledges, e.requester = x.toNat → e.wantNo = wantNo.toNat →
          e.offer ≠ none) → t = { s with outs := t.outs }) ∧
      (PledgeKeys s.share.pledges → ∀ e ∈ s.share.pledges, e.requester = x.toNat →
        e.wantNo = wantNo.toNat → e.offer = none →
        (¬ Eligible s (held - 1) →
          t = { s with
            share := { s.share with
              pledges := s.share.pledges.filter fun d =>
                !(d.requester == x.toNat && d.wantNo == wantNo.toNat) }
            outs := t.outs }) ∧
        (Eligible s (held - 1) →
          PledgeMade s t x wantNo e.asked fun o =>
            s.share.pledges.map fun d =>
              if d = e then { e with offer := some o, age := 0 } else d)))

/-- A PLEDGE heard (R155, R156, R159): the first that fits is taken, any other addressed to this station
is waived, and one to another station cancels the entry that waits for its want. -/
def Obligations.PledgesAreTakenOrWaived : Prop :=
  ∀ (s : State) (x : BitVec 5) (dest : BitVec 8) (wantNo pledgeNo : BitVec 16) (amount : BitVec 24),
    HeardWhole s x → 1 ≤ dest.toNat → dest.toNat ≤ 30 →
    let waive : BusFrame := .waive (BitVec.ofNat 8 x.toNat) wantNo pledgeNo
    let room := s.ceiling - (s.acct.avail + s.acct.held + s.acct.escrow + s.acct.incoming)
    let fits (w : Want) : Prop :=
      w.taken = none ∧ s.share.wantWindow ≠ none ∧ w.no = wantNo.toNat ∧ 100 ≤ amount.toNat ∧
      amount.toNat ≤ w.asked
    ∃ t, exec (.pledge x dest wantNo pledgeNo amount) s = .next t ∧
      (s.station ≠ some dest.toNat →
        t = { s with
          bus := (s.hearPeer x.toNat).bus
          share := { s.share with
            pledges := s.share.pledges.filter fun e =>
              !(decide (e.requester = dest.toNat) && decide (e.wantNo = wantNo.toNat) &&
                decide (e.offer = none)) }
          outs := t.outs }) ∧
      (s.station = some dest.toNat →
        ((∀ w ∈ s.share.want, ¬ fits w) →
          t = { s with bus := t.bus, port := t.port, outs := t.outs } ∧ BusHeard s t x ∧
          HandedOver s t waive ∧ RaisedWithin s.port t.port [.txOverflow]) ∧
        ∀ w ∈ s.share.want, fits w →
          (amount.toNat ≤ room →
            t = { s with
              acct := { s.acct with incoming := s.acct.incoming + amount.toNat }
              share := { s.share with
                want := some { w with taken := some ⟨x.toNat, pledgeNo.toNat, amount.toNat, 0⟩ }
                wantWindow := none, settleTimer := some 2000 }
              bus := t.bus, port := t.port, outs := t.outs } ∧
            BusHeard s t x ∧
            HandedOver s t (.take (BitVec.ofNat 8 x.toNat) wantNo pledgeNo amount) ∧
            RaisedWithin s.port t.port [.txOverflow]) ∧
          (room < amount.toNat →
            t = { s with
              share := wantClosed s.share, bus := t.bus, port := t.port, outs := t.outs } ∧
            t.bus = { (s.hearPeer x.toNat).bus with
              tx := t.bus.tx, standingTimer := t.bus.standingTimer
              announcedSurplus := t.bus.announcedSurplus
              announcedFlags := t.bus.announcedFlags } ∧
            HandedOver s t waive ∧ RaisedWithin s.port t.port [.txOverflow, .wantFailed] ∧
            (w.forRequest = true → t.alarm .wantFailed = true)))

/-- The giver's side of a transfer (R160, R161): TAKE and ASK conclude an open pledge, are answered again
from the out record, or get VOID; RECEIVED ends the out-record entry; WAIVE and the pledge timer return
the pledge. -/
def Obligations.GiverConcludesOrReturns : Prop :=
  ∀ (s : State) (x : BitVec 5) (own : BitVec 8) (wantNo pledgeNo : BitVec 16) (amount : BitVec 24),
    PledgeKeys s.share.pledges →
    let mine (e : PledgeEntry) : Prop := e.requester = x.toNat ∧ e.wantNo = wantNo.toNat
    let opened (e : PledgeEntry) : Prop := mine e ∧ ∃ o ∈ e.offer, o.pledgeNo = pledgeNo.toNat
    let hit (u : Transfer) : Prop :=
      u.station = x.toNat ∧ u.wantNo = wantNo.toNat ∧ u.pledgeNo = pledgeNo.toNat
    (HeardWhole s x → 1 ≤ own.toNat → own.toNat ≤ 30 → s.station = some own.toNat →
      (∀ c ∈ [Instr.take x own wantNo pledgeNo amount, .ask x own wantNo pledgeNo],
        ∃ t, exec c s = .next t ∧ BusHeard s t x ∧
        RaisedWithin s.port t.port [.transferOut, .txOverflow] ∧
        (∀ e ∈ s.share.pledges, opened e → ∀ o ∈ e.offer,
          let u : Transfer := ⟨x.toNat, wantNo.toNat, pledgeNo.toNat, o.amount⟩
          t = { s with
            acct := { s.acct with
              escrow := s.acct.escrow - o.amount, control := s.acct.control - o.amount }
            share := { s.share with
              pledges := s.share.pledges.filter fun d => d != e
              outRecord := s.share.outRecord ++ [u] }
            bus := t.bus, port := t.port, outs := t.outs } ∧
          HandedOver s t (.settled (BitVec.ofNat 8 x.toNat) wantNo pledgeNo
            (BitVec.ofNat 24 o.amount)) ∧
          t.alarm .transferOut = true) ∧
        ((∀ e ∈ s.share.pledges, ¬ opened e) →
          t = { s with bus := t.bus, port := t.port, outs := t.outs } ∧
          ((∃ u ∈ s.share.outRecord, hit u) → ∃ u ∈ s.share.outRecord, hit u ∧
            HandedOver s t (.settled (BitVec.ofNat 8 x.toNat) wantNo pledgeNo
              (BitVec.ofNat 24 u.amount))) ∧
          ((∀ u ∈ s.share.outRecord, ¬ hit u) →
            HandedOver s t (.void (BitVec.ofNat 8 x.toNat) wantNo pledgeNo)))) ∧
      (∃ t, exec (.received x own wantNo pledgeNo) s = .next t ∧
        t = { s with
          share := { s.share with
            outRecord := s.share.outRecord.filter fun u =>
              !(decide (u.station = x.toNat) && decide (u.wantNo = wantNo.toNat) &&
                decide (u.pledgeNo = pledgeNo.toNat)) }
          bus := (s.hearPeer x.toNat).bus, outs := t.outs }) ∧
      (∃ t, exec (.waive x own wantNo pledgeNo) s = .next t ∧
        ((∀ e ∈ s.share.pledges, ¬ opened e) →
          t = { s with bus := (s.hearPeer x.toNat).bus, outs := t.outs }) ∧
        ∀ e ∈ s.share.pledges, opened e → ∀ o ∈ e.offer,
          PledgeReturned (s.hearPeer x.toNat) t x wantNo o)) ∧
    (∃ t, exec (.pledgeTimerExpiry x wantNo) s = .next t ∧
      ((∀ e ∈ s.share.pledges, mine e → e.offer = none) → t = { s with outs := t.outs }) ∧
      ∀ e ∈ s.share.pledges, mine e → ∀ o ∈ e.offer, PledgeReturned s t x wantNo o)

/-- The requester's side of a transfer (R162, R163, R165): SETTLED brings in the amount recorded here,
VOID gives it up; a SETTLED for nothing recorded is acknowledged and alarmed. Of two unresolved entries
with one giver, want no and pledge no the oldest is meant: the model's choice (assumption log 49). -/
def Obligations.RequesterSettlesOrGivesUp : Prop :=
  ∀ (s : State) (x : BitVec 5) (own : BitVec 8) (wantNo pledgeNo : BitVec 16) (amount : BitVec 24),
    HeardWhole s x → 1 ≤ own.toNat → own.toNat ≤ 30 → s.station = some own.toNat →
    let hit (u : Transfer) : Bool :=
      u.station == x.toNat && u.wantNo == wantNo.toNat && u.pledgeNo == pledgeNo.toNat
    let received : BusFrame := .received (BitVec.ofNat 8 x.toNat) wantNo pledgeNo
    let taken (w : Want) (k : Taken) : Prop :=
      w.taken = some k ∧ w.no = wantNo.toNat ∧ k.giver = x.toNat ∧ k.pledgeNo = pledgeNo.toNat
    let paid (a : Nat) : Accounts := { s.acct with
      avail := s.acct.avail + a, control := s.acct.control + a, incoming := s.acct.incoming - a }
    let lost (a : Nat) : Accounts := { s.acct with incoming := s.acct.incoming - a }
    let heard : State := s.hearPeer x.toNat
    let less : SharingUnit := { s.share with unresolved := s.share.unresolved.eraseP hit }
    let noTaken := ∀ w ∈ s.share.want, ∀ k ∈ w.taken, ¬ taken w k
    (∃ t, exec (.settled x own wantNo pledgeNo amount) s = .next t ∧
      HandedOver s t received ∧
      RaisedWithin s.port t.port (.transferIn :: .straySettlement :: neighbourAlarms) ∧
      (∀ w ∈ s.share.want, ∀ k ∈ w.taken, taken w k →
        t = { s with acct := paid k.amount, share := wantClosed s.share, bus := t.bus
                     port := t.port, outs := t.outs } ∧
        NeighboursActed { heard with acct := paid k.amount, share := wantClosed s.share } t ∧
        t.alarm .transferIn = true) ∧
      (noTaken → ∀ u ∈ s.share.unresolved.find? hit,
        t = { s with acct := paid u.amount, share := t.share, bus := t.bus, port := t.port
                     outs := t.outs } ∧
        NeighboursActed { heard with acct := paid u.amount, share := less } t ∧
        t.alarm .transferIn = true) ∧
      (noTaken → (∀ u ∈ s.share.unresolved, hit u = false) →
        t = { s with bus := t.bus, port := t.port, outs := t.outs } ∧ BusHeard s t x ∧
        t.alarm .straySettlement = true)) ∧
    (∃ t, exec (.void x own wantNo pledgeNo) s = .next t ∧
      (∀ w ∈ s.share.want, ∀ k ∈ w.taken, taken w k →
        t = { s with acct := lost k.amount, share := wantClosed s.share, bus := t.bus
                     port := t.port, outs := t.outs } ∧
        NeighboursActed { heard with acct := lost k.amount, share := wantClosed s.share } t ∧
        RaisedWithin s.port t.port neighbourAlarms ∧
        (w.forRequest = true → t.alarm .wantFailed = true)) ∧
      (noTaken → ∀ u ∈ s.share.unresolved.find? hit,
        t = { s with acct := lost u.amount, share := t.share, bus := t.bus, port := t.port
                     outs := t.outs } ∧
        WantsEvaluated { heard with acct := lost u.amount, share := less } t ∧
        RaisedWithin s.port t.port neighbourAlarms) ∧
      (noTaken → (∀ u ∈ s.share.unresolved, hit u = false) →
        t = { s with bus := heard.bus, outs := t.outs }))

/-- DISCARD UNRESOLVED (R165, R13, R151; past 2^48 - 1 the written-off total is a free value, assumption
log 7). Of two unresolved entries with one giver, want no and pledge no the oldest is discarded: the
model's choice (assumption log 49). -/
def Obligations.DiscardWritesOffTheAmount : Prop :=
  ∀ (s : State) (giver : Byte) (w1 w2 p1 p2 : Byte), s.configured = true →
    let hit (u : Transfer) : Bool :=
      u.station == giver.toNat && u.wantNo == w1.toNat * 256 + w2.toNat &&
        u.pledgeNo == p1.toNat * 256 + p2.toNat
    ∃ t, exec (.discardUnresolved [giver, w1, w2, p1, p2]) s = .next t ∧
      (s.port.protection = true → Refused s t .prot) ∧
      (s.port.protection = false →
        (giver = 0 ∨ 30 < giver.toNat → Refused s t .badArgument) ∧
        (giver ≠ 0 → giver.toNat ≤ 30 →
          ((∀ u ∈ s.share.unresolved, hit u = false) → Refused s t .noEntry) ∧
          ∀ u ∈ s.share.unresolved.find? hit,
            s.share.writtenOff + u.amount ≤ 281474976710655 →
            let acct := { s.acct with incoming := s.acct.incoming - u.amount }
            let share := { s.share with
              unresolved := s.share.unresolved.eraseP hit
              writtenOff := s.share.writtenOff + u.amount }
            t = { s with acct := acct, share := t.share, bus := t.bus, port := t.port
                         outs := t.outs } ∧
            WantsEvaluated { s with acct := acct, share := share } t ∧
            RaisedWithin (s.portAfter ⟨.ok, beBytes 6 (s.share.writtenOff + u.amount)⟩) t.port
              neighbourAlarms))

/-- REQUEST CREDIT and the retry interval, with the WANT their evaluation sends (R153, R154). -/
def Obligations.WantIsSentOnItsConditions : Prop :=
  ∀ (s : State) (b2 b1 b0 : Byte),
    let a := b2.toNat * 65536 + b1.toNat * 256 + b0.toNat
    let asking : State := { s with share := { s.share with request := some a } }
    let retried : State := { s with share := { s.share with retry := none } }
    (s.configured = true → ∃ t, exec (.requestCredit [b2, b1, b0]) s = .next t ∧
      (a < 100 → Refused s t .badArgument) ∧
      (100 ≤ a → s.share.request ≠ none → Refused s t .busy) ∧
      (100 ≤ a → s.share.request = none → s.acct.mode = .exhausted →
        t = { s with port := t.port, outs := t.outs } ∧ t.alarm .wantFailed = true ∧
        RaisedWithin (s.portAfter ⟨.ok, []⟩) t.port [.wantFailed]) ∧
      (100 ≤ a → s.share.request = none → s.acct.mode ≠ .exhausted →
        t = { s with share := t.share, bus := t.bus, port := t.port, outs := t.outs } ∧
        WantSent asking t ∧ WantsEvaluated asking t ∧
        RaisedWithin (s.portAfter ⟨.ok, []⟩) t.port neighbourAlarms)) ∧
    (∃ t, exec .retryIntervalExpiry s = .next t ∧
      (s.share.retry = none → t = { s with outs := t.outs }) ∧
      (s.share.retry ≠ none →
        t = { s with share := t.share, bus := t.bus, port := t.port, outs := t.outs } ∧
        WantSent retried t ∧ WantsEvaluated retried t ∧
        RaisedWithin s.port t.port neighbourAlarms))

/-- The want window and the settle timer (R157, R163, R164). That a TAKEN want becomes an unresolved entry
also beside one of the same giver, want no and pledge no is the model's choice (assumption log 49). -/
def Obligations.WantTimersCloseOrAskAgain : Prop :=
  ∀ (s : State),
    (∃ t, exec .wantWindowExpiry s = .next t ∧
      (s.share.wantWindow = none → t = { s with outs := t.outs }) ∧
      (s.share.wantWindow ≠ none → ∀ w ∈ s.share.want, w.taken = none →
        t = { s with share := wantClosed s.share, bus := t.bus, port := t.port
                     outs := t.outs } ∧
        NeighboursActed { s with share := wantClosed s.share } t ∧
        RaisedWithin s.port t.port [.txOverflow, .wantFailed] ∧
        (w.forRequest = true → t.alarm .wantFailed = true))) ∧
    (∃ t, exec .settleTimerExpiry s = .next t ∧
      (s.share.settleTimer = none → t = { s with outs := t.outs }) ∧
      (s.share.settleTimer ≠ none → ∀ w ∈ s.share.want, ∀ k ∈ w.taken,
        (k.attempts < 3 →
          t = { s with
            share := { s.share with
              want := some { w with taken := some { k with attempts := k.attempts + 1 } }
              settleTimer := some 2000 }
            bus := { s.bus with tx := t.bus.tx }, port := t.port, outs := t.outs } ∧
          HandedOver s t (.ask (BitVec.ofNat 8 k.giver) (BitVec.ofNat 16 w.no)
            (BitVec.ofNat 16 k.pledgeNo)) ∧
          RaisedWithin s.port t.port [.txOverflow]) ∧
        (3 ≤ k.attempts →
          let share := { wantClosed s.share with
            unresolved := s.share.unresolved ++ [⟨k.giver, w.no, k.pledgeNo, k.amount⟩] }
          t = { s with share := share, bus := t.bus, port := t.port, outs := t.outs } ∧
          NeighboursActed { s with share := share } t ∧ t.alarm .unresolved = true ∧
          RaisedWithin s.port t.port [.unresolved, .txOverflow])))

/-! ## Refills and lines -/

/-- APPLY REFILL once configured (R170, R172 to R175, R178): the first check that fails names the outcome
and changes nothing; an applied record moves the credit, its number, the day and the contact, and where
the mode leaves CONTACT_LOCKED the head run is considered for start, after the evaluations of STANDING and
WANT: the model's order (assumption log 19). -/
def Obligations.RefillIsAppliedOnce : Prop :=
  ∀ (s : State) (p : List Byte), p.length = 16 → ∀ c ∈ s.port.settings,
    let number := field p 4 2
    let amount := field p 6 4
    let bankDay := field p 10 2
    let receipt (u : State) (outcome : Nat) : List Byte :=
      beBytes 4 s.refill.serial.toNat ++ beBytes 2 number ++ beBytes 1 outcome ++
      beBytes 4 u.acct.avail ++ beBytes 5 u.acct.used ++ beBytes 6 u.acct.control ++
      beBytes 5 u.acct.spoiled ++ beBytes 2 u.rates.day
    let wrongSerial := s.refill.serial ≠ BitVec.ofNat 32 (field p 0 4)
    let wrongCheck :=
      Config.checkCode s.refill.secret (p.take 12) ≠ BitVec.ofNat 32 (field p 12 4)
    let room := c.ceiling - (s.acct.avail + s.acct.held + s.acct.escrow + s.acct.incoming)
    let refused :=
      if wrongSerial then some 2
      else if wrongCheck then some 3
      else if number ≤ s.refill.lastNumber then some 4
      else if s.refill.lastNumber + 1 < number then some 5
      else if 0 < amount ∧ s.acct.mode = .exhausted then some 6
      else if room < amount then some 7
      else none
    let day := if s.rates.day < bankDay then bankDay else s.rates.day
    let swaps := s.rates.day < bankDay ∧ ∃ e ∈ s.rates.effectiveDay, e ≤ bankDay
    let mode :=
      if s.acct.mode = .exhausted then .exhausted else contactOutcome day day c.contactDays
    let m : State := { s with
      acct := { s.acct with
        avail := s.acct.avail + amount, control := s.acct.control + amount, mode := mode }
      rates :=
        if swaps then ⟨day, s.rates.pending, Vector.replicate 32 none, none⟩
        else { s.rates with day := day }
      refill := { s.refill with lastNumber := number, lastContact := day } }
    ∃ t, exec (.applyRefill p) s = .next t ∧
      (∀ outcome ∈ refused, OnlyRead s t (receipt s outcome)) ∧
      (refused = none → s.acct.mode ≠ .contactLocked ∨ s.runs.queue = [] →
        t = { m with share := t.share, bus := t.bus, port := t.port, outs := t.outs } ∧
        (0 < amount ∨ mode ≠ s.acct.mode → NeighboursActed m t) ∧
        (amount = 0 → mode = s.acct.mode → t.share = s.share ∧ t.bus = s.bus) ∧
        t.alarm .refillDone = true ∧ (swaps → t.alarm .ratesSwapped = true) ∧
        RaisedWithin (s.portAfter ⟨.ok, receipt m 0⟩) t.port
          ([.refillDone, .ratesSwapped, .contactDue, .contactLocked] ++ neighbourAlarms)) ∧
      (refused = none → s.acct.mode = .contactLocked → QueueLaw s →
        ∃ u, u = { m with share := u.share, bus := u.bus, port := u.port } ∧
          NeighboursActed m u ∧ u.alarm .refillDone = true ∧
          (swaps → u.alarm .ratesSwapped = true) ∧
          RaisedWithin (s.portAfter ⟨.ok, receipt m 0⟩) u.port
            ([.refillDone, .ratesSwapped, .contactDue, .contactLocked] ++ neighbourAlarms) ∧
          ∀ n, Starts n u t)

/-- The qualified lines (R186, R145): a level taken with no owner does nothing else, an edge with an owner
is that owner's event, and REEL_LOW raises the alarm of its feeder. What a row leaves of its line's
qualifier is the model's reading (assumption log 23). QUALIFIED_LEVEL_CHANGE at an edge that has an owner
is not a well-formed term; the model gives it its owner's meaning (assumption log 39). -/
def Obligations.LineEdgesReachTheirOwners : Prop :=
  ∀ (s : State) (level : Bool), ∀ l ∈ allLines,
    (∃ t, exec (.lineSettled l level) s = .next t ∧
      t = { s with lines := linesTaken s l level, outs := t.outs }) ∧
    (ownedEdge l level = false → ∃ t, exec (.qualifiedLevelChange l level) s = .next t ∧
      t = { s with lines := linesTaken s l level, outs := t.outs }) ∧
    (∀ x ∈ [(Line.issueA, true, Instr.issueRise .a), (.issueB, true, .issueRise .b),
        (.reelLowA, true, .reelLowRise .a), (.reelLowB, true, .reelLowRise .b),
        (.done, true, .doneRise), (.fault, true, .faultRise), (.service, false, .serviceFall)],
      exec (.qualifiedLevelChange x.1 x.2.1) s = exec x.2.2 s) ∧
    (∀ x ∈ [(Feeder.a, Line.reelLowA, Alarm.reelLowA), (.b, .reelLowB, .reelLowB)],
      ∃ t, exec (.reelLowRise x.1) s = .next t ∧
        t = { s with lines := linesTaken s x.2.1 true, port := t.port, outs := t.outs } ∧
        RaisedWithin s.port t.port [x.2.2] ∧ t.alarm x.2.2 = true ∧
        (s.driveOutputs = s → t.outs.feedEnableA = s.outs.feedEnableA ∧
          t.outs.feedEnableB = s.outs.feedEnableB))

/-! ## What every step keeps -/

/-- The first two laws are kept by every step (R2, R3, R6). -/
def Obligations.CreditLawsAreKept : Prop :=
  ∀ (s t : State), WithinCeiling s → step s = .next t → WithinCeiling t

/-- The fourth and the sixth law are kept by every step (R5, R80). -/
def Obligations.QueueLawIsKept : Prop :=
  ∀ (s t : State), QueueLaw s → step s = .next t → QueueLaw t

/-- The eighth law is kept by every step (R129). -/
def Obligations.StockLawIsKept : Prop :=
  ∀ (s t : State), StockLaw s → step s = .next t → StockLaw t

/-- The tables keep their form and limits by every step (R43, R54, R98, R120, R124, R150, R151, R189). -/
def Obligations.TableLawsAreKept : Prop :=
  ∀ (s t : State), step s = .next t →
    (GrantsHeldOnce s → GrantsHeldOnce t) ∧ (FeedersBoundOnce s → FeedersBoundOnce t) ∧
    (TransferLimits s → TransferLimits t) ∧ (PeerTableLaw s → PeerTableLaw t) ∧
    (TransmitQueueLaw s → TransmitQueueLaw t) ∧ (JobMemoryWf s → JobMemoryWf t) ∧
    (AlarmBitsDefined s → AlarmBitsDefined t)

/-- The day, the last contact day and the mode stay in step (R16, R63, R168, R176); and what never runs
back (R4, R7, R59, R168): USED, SPOILED and the day never fall, the last refill number and the imprint
number move by one or not at all, and SPOILED stays within USED. -/
def Obligations.DayModeAndTotalsMoveForward : Prop :=
  ∀ (s t : State), step s = .next t →
    (DaysInOrder s → ModeInStep s → DaysInOrder t ∧ ModeInStep t) ∧
    s.acct.used ≤ t.acct.used ∧ s.acct.spoiled ≤ t.acct.spoiled ∧ s.rates.day ≤ t.rates.day ∧
    (t.refill.lastNumber = s.refill.lastNumber ∨
      t.refill.lastNumber = s.refill.lastNumber + 1) ∧
    (t.acct.imprintNo = s.acct.imprintNo ∨
      t.acct.imprintNo = (s.acct.imprintNo + 1) % 4294967296) ∧
    (SpoiledWithinUsed s → SpoiledWithinUsed t)

/-- The laws hold in the state after reset. -/
def Obligations.LawsHoldAtReset : Prop :=
  WithinCeiling .reset ∧ SpoiledWithinUsed .reset ∧ QueueLaw .reset ∧ StockLaw .reset ∧
  GrantsHeldOnce .reset ∧ FeedersBoundOnce .reset ∧ TransferLimits .reset ∧ PeerTableLaw .reset ∧
  TransmitQueueLaw .reset ∧ JobMemoryWf .reset ∧ AlarmBitsDefined .reset ∧ DaysInOrder .reset ∧
  ModeInStep .reset
end

