-- ==== Sys2Proof/Laws/State.lean ====
section
/-! SUPPORT. What each named update of State does to each field, by unfolding alone: no later proof opens
a record update. -/

namespace Sys2Proof.Machine

/-! ## modRuns -/

@[simp] theorem State.modRuns_acct (s : State) (f : RunUnit → RunUnit) :
    (s.modRuns f).acct = s.acct := rfl
@[simp] theorem State.modRuns_grants (s : State) (f : RunUnit → RunUnit) :
    (s.modRuns f).grants = s.grants := rfl
@[simp] theorem State.modRuns_slots (s : State) (f : RunUnit → RunUnit) :
    (s.modRuns f).slots = s.slots := rfl
@[simp] theorem State.modRuns_rates (s : State) (f : RunUnit → RunUnit) :
    (s.modRuns f).rates = s.rates := rfl
@[simp] theorem State.modRuns_runs (s : State) (f : RunUnit → RunUnit) :
    (s.modRuns f).runs = f s.runs := rfl
@[simp] theorem State.modRuns_job (s : State) (f : RunUnit → RunUnit) :
    (s.modRuns f).job = s.job := rfl
@[simp] theorem State.modRuns_stock (s : State) (f : RunUnit → RunUnit) :
    (s.modRuns f).stock = s.stock := rfl
@[simp] theorem State.modRuns_bus (s : State) (f : RunUnit → RunUnit) :
    (s.modRuns f).bus = s.bus := rfl
@[simp] theorem State.modRuns_share (s : State) (f : RunUnit → RunUnit) :
    (s.modRuns f).share = s.share := rfl
@[simp] theorem State.modRuns_refill (s : State) (f : RunUnit → RunUnit) :
    (s.modRuns f).refill = s.refill := rfl
@[simp] theorem State.modRuns_port (s : State) (f : RunUnit → RunUnit) :
    (s.modRuns f).port = s.port := rfl
@[simp] theorem State.modRuns_lines (s : State) (f : RunUnit → RunUnit) :
    (s.modRuns f).lines = s.lines := rfl
@[simp] theorem State.modRuns_outs (s : State) (f : RunUnit → RunUnit) :
    (s.modRuns f).outs = s.outs := rfl
@[simp] theorem State.modRuns_pending (s : State) (f : RunUnit → RunUnit) :
    (s.modRuns f).pending = s.pending := rfl

/-! ## modRun -/

@[simp] theorem State.modRun_acct (s : State) (id : Nat) (f : Run → Run) :
    (s.modRun id f).acct = s.acct := rfl
@[simp] theorem State.modRun_grants (s : State) (id : Nat) (f : Run → Run) :
    (s.modRun id f).grants = s.grants := rfl
@[simp] theorem State.modRun_slots (s : State) (id : Nat) (f : Run → Run) :
    (s.modRun id f).slots = s.slots := rfl
@[simp] theorem State.modRun_rates (s : State) (id : Nat) (f : Run → Run) :
    (s.modRun id f).rates = s.rates := rfl
@[simp] theorem State.modRun_runs (s : State) (id : Nat) (f : Run → Run) :
    (s.modRun id f).runs = { s.runs with queue := s.runs.queue.map fun r => if r.id = id then f r else r } := rfl
@[simp] theorem State.modRun_job (s : State) (id : Nat) (f : Run → Run) :
    (s.modRun id f).job = s.job := rfl
@[simp] theorem State.modRun_stock (s : State) (id : Nat) (f : Run → Run) :
    (s.modRun id f).stock = s.stock := rfl
@[simp] theorem State.modRun_bus (s : State) (id : Nat) (f : Run → Run) :
    (s.modRun id f).bus = s.bus := rfl
@[simp] theorem State.modRun_share (s : State) (id : Nat) (f : Run → Run) :
    (s.modRun id f).share = s.share := rfl
@[simp] theorem State.modRun_refill (s : State) (id : Nat) (f : Run → Run) :
    (s.modRun id f).refill = s.refill := rfl
@[simp] theorem State.modRun_port (s : State) (id : Nat) (f : Run → Run) :
    (s.modRun id f).port = s.port := rfl
@[simp] theorem State.modRun_lines (s : State) (id : Nat) (f : Run → Run) :
    (s.modRun id f).lines = s.lines := rfl
@[simp] theorem State.modRun_outs (s : State) (id : Nat) (f : Run → Run) :
    (s.modRun id f).outs = s.outs := rfl
@[simp] theorem State.modRun_pending (s : State) (id : Nat) (f : Run → Run) :
    (s.modRun id f).pending = s.pending := rfl

/-! ## modWalker -/

@[simp] theorem State.modWalker_acct (s : State) (f : Walker → Walker) :
    (s.modWalker f).acct = s.acct := rfl
@[simp] theorem State.modWalker_grants (s : State) (f : Walker → Walker) :
    (s.modWalker f).grants = s.grants := rfl
@[simp] theorem State.modWalker_slots (s : State) (f : Walker → Walker) :
    (s.modWalker f).slots = s.slots := rfl
@[simp] theorem State.modWalker_rates (s : State) (f : Walker → Walker) :
    (s.modWalker f).rates = s.rates := rfl
@[simp] theorem State.modWalker_runs (s : State) (f : Walker → Walker) :
    (s.modWalker f).runs = s.runs := rfl
@[simp] theorem State.modWalker_job (s : State) (f : Walker → Walker) :
    (s.modWalker f).job = { s.job with walker := f s.job.walker } := rfl
@[simp] theorem State.modWalker_stock (s : State) (f : Walker → Walker) :
    (s.modWalker f).stock = s.stock := rfl
@[simp] theorem State.modWalker_bus (s : State) (f : Walker → Walker) :
    (s.modWalker f).bus = s.bus := rfl
@[simp] theorem State.modWalker_share (s : State) (f : Walker → Walker) :
    (s.modWalker f).share = s.share := rfl
@[simp] theorem State.modWalker_refill (s : State) (f : Walker → Walker) :
    (s.modWalker f).refill = s.refill := rfl
@[simp] theorem State.modWalker_port (s : State) (f : Walker → Walker) :
    (s.modWalker f).port = s.port := rfl
@[simp] theorem State.modWalker_lines (s : State) (f : Walker → Walker) :
    (s.modWalker f).lines = s.lines := rfl
@[simp] theorem State.modWalker_outs (s : State) (f : Walker → Walker) :
    (s.modWalker f).outs = s.outs := rfl
@[simp] theorem State.modWalker_pending (s : State) (f : Walker → Walker) :
    (s.modWalker f).pending = s.pending := rfl

/-! ## modBus -/

@[simp] theorem State.modBus_acct (s : State) (f : BusUnit → BusUnit) :
    (s.modBus f).acct = s.acct := rfl
@[simp] theorem State.modBus_grants (s : State) (f : BusUnit → BusUnit) :
    (s.modBus f).grants = s.grants := rfl
@[simp] theorem State.modBus_slots (s : State) (f : BusUnit → BusUnit) :
    (s.modBus f).slots = s.slots := rfl
@[simp] theorem State.modBus_rates (s : State) (f : BusUnit → BusUnit) :
    (s.modBus f).rates = s.rates := rfl
@[simp] theorem State.modBus_runs (s : State) (f : BusUnit → BusUnit) :
    (s.modBus f).runs = s.runs := rfl
@[simp] theorem State.modBus_job (s : State) (f : BusUnit → BusUnit) :
    (s.modBus f).job = s.job := rfl
@[simp] theorem State.modBus_stock (s : State) (f : BusUnit → BusUnit) :
    (s.modBus f).stock = s.stock := rfl
@[simp] theorem State.modBus_bus (s : State) (f : BusUnit → BusUnit) :
    (s.modBus f).bus = f s.bus := rfl
@[simp] theorem State.modBus_share (s : State) (f : BusUnit → BusUnit) :
    (s.modBus f).share = s.share := rfl
@[simp] theorem State.modBus_refill (s : State) (f : BusUnit → BusUnit) :
    (s.modBus f).refill = s.refill := rfl
@[simp] theorem State.modBus_port (s : State) (f : BusUnit → BusUnit) :
    (s.modBus f).port = s.port := rfl
@[simp] theorem State.modBus_lines (s : State) (f : BusUnit → BusUnit) :
    (s.modBus f).lines = s.lines := rfl
@[simp] theorem State.modBus_outs (s : State) (f : BusUnit → BusUnit) :
    (s.modBus f).outs = s.outs := rfl
@[simp] theorem State.modBus_pending (s : State) (f : BusUnit → BusUnit) :
    (s.modBus f).pending = s.pending := rfl

/-! ## modShare -/

@[simp] theorem State.modShare_acct (s : State) (f : SharingUnit → SharingUnit) :
    (s.modShare f).acct = s.acct := rfl
@[simp] theorem State.modShare_grants (s : State) (f : SharingUnit → SharingUnit) :
    (s.modShare f).grants = s.grants := rfl
@[simp] theorem State.modShare_slots (s : State) (f : SharingUnit → SharingUnit) :
    (s.modShare f).slots = s.slots := rfl
@[simp] theorem State.modShare_rates (s : State) (f : SharingUnit → SharingUnit) :
    (s.modShare f).rates = s.rates := rfl
@[simp] theorem State.modShare_runs (s : State) (f : SharingUnit → SharingUnit) :
    (s.modShare f).runs = s.runs := rfl
@[simp] theorem State.modShare_job (s : State) (f : SharingUnit → SharingUnit) :
    (s.modShare f).job = s.job := rfl
@[simp] theorem State.modShare_stock (s : State) (f : SharingUnit → SharingUnit) :
    (s.modShare f).stock = s.stock := rfl
@[simp] theorem State.modShare_bus (s : State) (f : SharingUnit → SharingUnit) :
    (s.modShare f).bus = s.bus := rfl
@[simp] theorem State.modShare_share (s : State) (f : SharingUnit → SharingUnit) :
    (s.modShare f).share = f s.share := rfl
@[simp] theorem State.modShare_refill (s : State) (f : SharingUnit → SharingUnit) :
    (s.modShare f).refill = s.refill := rfl
@[simp] theorem State.modShare_port (s : State) (f : SharingUnit → SharingUnit) :
    (s.modShare f).port = s.port := rfl
@[simp] theorem State.modShare_lines (s : State) (f : SharingUnit → SharingUnit) :
    (s.modShare f).lines = s.lines := rfl
@[simp] theorem State.modShare_outs (s : State) (f : SharingUnit → SharingUnit) :
    (s.modShare f).outs = s.outs := rfl
@[simp] theorem State.modShare_pending (s : State) (f : SharingUnit → SharingUnit) :
    (s.modShare f).pending = s.pending := rfl

/-! ## modStock -/

@[simp] theorem State.modStock_acct (s : State) (f : StockUnit → StockUnit) :
    (s.modStock f).acct = s.acct := rfl
@[simp] theorem State.modStock_grants (s : State) (f : StockUnit → StockUnit) :
    (s.modStock f).grants = s.grants := rfl
@[simp] theorem State.modStock_slots (s : State) (f : StockUnit → StockUnit) :
    (s.modStock f).slots = s.slots := rfl
@[simp] theorem State.modStock_rates (s : State) (f : StockUnit → StockUnit) :
    (s.modStock f).rates = s.rates := rfl
@[simp] theorem State.modStock_runs (s : State) (f : StockUnit → StockUnit) :
    (s.modStock f).runs = s.runs := rfl
@[simp] theorem State.modStock_job (s : State) (f : StockUnit → StockUnit) :
    (s.modStock f).job = s.job := rfl
@[simp] theorem State.modStock_stock (s : State) (f : StockUnit → StockUnit) :
    (s.modStock f).stock = f s.stock := rfl
@[simp] theorem State.modStock_bus (s : State) (f : StockUnit → StockUnit) :
    (s.modStock f).bus = s.bus := rfl
@[simp] theorem State.modStock_share (s : State) (f : StockUnit → StockUnit) :
    (s.modStock f).share = s.share := rfl
@[simp] theorem State.modStock_refill (s : State) (f : StockUnit → StockUnit) :
    (s.modStock f).refill = s.refill := rfl
@[simp] theorem State.modStock_port (s : State) (f : StockUnit → StockUnit) :
    (s.modStock f).port = s.port := rfl
@[simp] theorem State.modStock_lines (s : State) (f : StockUnit → StockUnit) :
    (s.modStock f).lines = s.lines := rfl
@[simp] theorem State.modStock_outs (s : State) (f : StockUnit → StockUnit) :
    (s.modStock f).outs = s.outs := rfl
@[simp] theorem State.modStock_pending (s : State) (f : StockUnit → StockUnit) :
    (s.modStock f).pending = s.pending := rfl

/-! ## modPort -/

@[simp] theorem State.modPort_acct (s : State) (f : PortUnit → PortUnit) :
    (s.modPort f).acct = s.acct := rfl
@[simp] theorem State.modPort_grants (s : State) (f : PortUnit → PortUnit) :
    (s.modPort f).grants = s.grants := rfl
@[simp] theorem State.modPort_slots (s : State) (f : PortUnit → PortUnit) :
    (s.modPort f).slots = s.slots := rfl
@[simp] theorem State.modPort_rates (s : State) (f : PortUnit → PortUnit) :
    (s.modPort f).rates = s.rates := rfl
@[simp] theorem State.modPort_runs (s : State) (f : PortUnit → PortUnit) :
    (s.modPort f).runs = s.runs := rfl
@[simp] theorem State.modPort_job (s : State) (f : PortUnit → PortUnit) :
    (s.modPort f).job = s.job := rfl
@[simp] theorem State.modPort_stock (s : State) (f : PortUnit → PortUnit) :
    (s.modPort f).stock = s.stock := rfl
@[simp] theorem State.modPort_bus (s : State) (f : PortUnit → PortUnit) :
    (s.modPort f).bus = s.bus := rfl
@[simp] theorem State.modPort_share (s : State) (f : PortUnit → PortUnit) :
    (s.modPort f).share = s.share := rfl
@[simp] theorem State.modPort_refill (s : State) (f : PortUnit → PortUnit) :
    (s.modPort f).refill = s.refill := rfl
@[simp] theorem State.modPort_port (s : State) (f : PortUnit → PortUnit) :
    (s.modPort f).port = f s.port := rfl
@[simp] theorem State.modPort_lines (s : State) (f : PortUnit → PortUnit) :
    (s.modPort f).lines = s.lines := rfl
@[simp] theorem State.modPort_outs (s : State) (f : PortUnit → PortUnit) :
    (s.modPort f).outs = s.outs := rfl
@[simp] theorem State.modPort_pending (s : State) (f : PortUnit → PortUnit) :
    (s.modPort f).pending = s.pending := rfl

/-! ## setMode -/

@[simp] theorem State.setMode_acct (s : State) (m : Mode) :
    (s.setMode m).acct = { s.acct with mode := m } := rfl
@[simp] theorem State.setMode_grants (s : State) (m : Mode) :
    (s.setMode m).grants = s.grants := rfl
@[simp] theorem State.setMode_slots (s : State) (m : Mode) :
    (s.setMode m).slots = s.slots := rfl
@[simp] theorem State.setMode_rates (s : State) (m : Mode) :
    (s.setMode m).rates = s.rates := rfl
@[simp] theorem State.setMode_runs (s : State) (m : Mode) :
    (s.setMode m).runs = s.runs := rfl
@[simp] theorem State.setMode_job (s : State) (m : Mode) :
    (s.setMode m).job = s.job := rfl
@[simp] theorem State.setMode_stock (s : State) (m : Mode) :
    (s.setMode m).stock = s.stock := rfl
@[simp] theorem State.setMode_bus (s : State) (m : Mode) :
    (s.setMode m).bus = s.bus := rfl
@[simp] theorem State.setMode_share (s : State) (m : Mode) :
    (s.setMode m).share = s.share := rfl
@[simp] theorem State.setMode_refill (s : State) (m : Mode) :
    (s.setMode m).refill = s.refill := rfl
@[simp] theorem State.setMode_port (s : State) (m : Mode) :
    (s.setMode m).port = s.port := rfl
@[simp] theorem State.setMode_lines (s : State) (m : Mode) :
    (s.setMode m).lines = s.lines := rfl
@[simp] theorem State.setMode_outs (s : State) (m : Mode) :
    (s.setMode m).outs = s.outs := rfl
@[simp] theorem State.setMode_pending (s : State) (m : Mode) :
    (s.setMode m).pending = s.pending := rfl

/-! ## setSlot -/

@[simp] theorem State.setSlot_acct (s : State) (i : Nat) (sl : Slot) :
    (s.setSlot i sl).acct = s.acct := rfl
@[simp] theorem State.setSlot_grants (s : State) (i : Nat) (sl : Slot) :
    (s.setSlot i sl).grants = s.grants := rfl
@[simp] theorem State.setSlot_slots (s : State) (i : Nat) (sl : Slot) :
    (s.setSlot i sl).slots = s.slots.setIfInBounds i sl := rfl
@[simp] theorem State.setSlot_rates (s : State) (i : Nat) (sl : Slot) :
    (s.setSlot i sl).rates = s.rates := rfl
@[simp] theorem State.setSlot_runs (s : State) (i : Nat) (sl : Slot) :
    (s.setSlot i sl).runs = s.runs := rfl
@[simp] theorem State.setSlot_job (s : State) (i : Nat) (sl : Slot) :
    (s.setSlot i sl).job = s.job := rfl
@[simp] theorem State.setSlot_stock (s : State) (i : Nat) (sl : Slot) :
    (s.setSlot i sl).stock = s.stock := rfl
@[simp] theorem State.setSlot_bus (s : State) (i : Nat) (sl : Slot) :
    (s.setSlot i sl).bus = s.bus := rfl
@[simp] theorem State.setSlot_share (s : State) (i : Nat) (sl : Slot) :
    (s.setSlot i sl).share = s.share := rfl
@[simp] theorem State.setSlot_refill (s : State) (i : Nat) (sl : Slot) :
    (s.setSlot i sl).refill = s.refill := rfl
@[simp] theorem State.setSlot_port (s : State) (i : Nat) (sl : Slot) :
    (s.setSlot i sl).port = s.port := rfl
@[simp] theorem State.setSlot_lines (s : State) (i : Nat) (sl : Slot) :
    (s.setSlot i sl).lines = s.lines := rfl
@[simp] theorem State.setSlot_outs (s : State) (i : Nat) (sl : Slot) :
    (s.setSlot i sl).outs = s.outs := rfl
@[simp] theorem State.setSlot_pending (s : State) (i : Nat) (sl : Slot) :
    (s.setSlot i sl).pending = s.pending := rfl

/-! ## modSlot -/

@[simp] theorem State.modSlot_acct (s : State) (i : Nat) (f : Slot → Slot) :
    (s.modSlot i f).acct = s.acct := rfl
@[simp] theorem State.modSlot_grants (s : State) (i : Nat) (f : Slot → Slot) :
    (s.modSlot i f).grants = s.grants := rfl
@[simp] theorem State.modSlot_slots (s : State) (i : Nat) (f : Slot → Slot) :
    (s.modSlot i f).slots = s.slots.setIfInBounds i (f (s.slot i)) := rfl
@[simp] theorem State.modSlot_rates (s : State) (i : Nat) (f : Slot → Slot) :
    (s.modSlot i f).rates = s.rates := rfl
@[simp] theorem State.modSlot_runs (s : State) (i : Nat) (f : Slot → Slot) :
    (s.modSlot i f).runs = s.runs := rfl
@[simp] theorem State.modSlot_job (s : State) (i : Nat) (f : Slot → Slot) :
    (s.modSlot i f).job = s.job := rfl
@[simp] theorem State.modSlot_stock (s : State) (i : Nat) (f : Slot → Slot) :
    (s.modSlot i f).stock = s.stock := rfl
@[simp] theorem State.modSlot_bus (s : State) (i : Nat) (f : Slot → Slot) :
    (s.modSlot i f).bus = s.bus := rfl
@[simp] theorem State.modSlot_share (s : State) (i : Nat) (f : Slot → Slot) :
    (s.modSlot i f).share = s.share := rfl
@[simp] theorem State.modSlot_refill (s : State) (i : Nat) (f : Slot → Slot) :
    (s.modSlot i f).refill = s.refill := rfl
@[simp] theorem State.modSlot_port (s : State) (i : Nat) (f : Slot → Slot) :
    (s.modSlot i f).port = s.port := rfl
@[simp] theorem State.modSlot_lines (s : State) (i : Nat) (f : Slot → Slot) :
    (s.modSlot i f).lines = s.lines := rfl
@[simp] theorem State.modSlot_outs (s : State) (i : Nat) (f : Slot → Slot) :
    (s.modSlot i f).outs = s.outs := rfl
@[simp] theorem State.modSlot_pending (s : State) (i : Nat) (f : Slot → Slot) :
    (s.modSlot i f).pending = s.pending := rfl

/-! ## takeLevel -/

@[simp] theorem State.takeLevel_acct (s : State) (l : Line) (b : Bool) :
    (s.takeLevel l b).acct = s.acct := rfl
@[simp] theorem State.takeLevel_grants (s : State) (l : Line) (b : Bool) :
    (s.takeLevel l b).grants = s.grants := rfl
@[simp] theorem State.takeLevel_slots (s : State) (l : Line) (b : Bool) :
    (s.takeLevel l b).slots = s.slots := rfl
@[simp] theorem State.takeLevel_rates (s : State) (l : Line) (b : Bool) :
    (s.takeLevel l b).rates = s.rates := rfl
@[simp] theorem State.takeLevel_runs (s : State) (l : Line) (b : Bool) :
    (s.takeLevel l b).runs = s.runs := rfl
@[simp] theorem State.takeLevel_job (s : State) (l : Line) (b : Bool) :
    (s.takeLevel l b).job = s.job := rfl
@[simp] theorem State.takeLevel_stock (s : State) (l : Line) (b : Bool) :
    (s.takeLevel l b).stock = s.stock := rfl
@[simp] theorem State.takeLevel_bus (s : State) (l : Line) (b : Bool) :
    (s.takeLevel l b).bus = s.bus := rfl
@[simp] theorem State.takeLevel_share (s : State) (l : Line) (b : Bool) :
    (s.takeLevel l b).share = s.share := rfl
@[simp] theorem State.takeLevel_refill (s : State) (l : Line) (b : Bool) :
    (s.takeLevel l b).refill = s.refill := rfl
@[simp] theorem State.takeLevel_port (s : State) (l : Line) (b : Bool) :
    (s.takeLevel l b).port = s.port := rfl
@[simp] theorem State.takeLevel_lines (s : State) (l : Line) (b : Bool) :
    (s.takeLevel l b).lines = s.lines.set l ((s.lines.get l).taken b) := rfl
@[simp] theorem State.takeLevel_outs (s : State) (l : Line) (b : Bool) :
    (s.takeLevel l b).outs = s.outs := rfl
@[simp] theorem State.takeLevel_pending (s : State) (l : Line) (b : Bool) :
    (s.takeLevel l b).pending = s.pending := rfl

/-! ## raise -/

@[simp] theorem State.raise_acct (s : State) (a : Alarm) :
    (s.raise a).acct = s.acct := rfl
@[simp] theorem State.raise_grants (s : State) (a : Alarm) :
    (s.raise a).grants = s.grants := rfl
@[simp] theorem State.raise_slots (s : State) (a : Alarm) :
    (s.raise a).slots = s.slots := rfl
@[simp] theorem State.raise_rates (s : State) (a : Alarm) :
    (s.raise a).rates = s.rates := rfl
@[simp] theorem State.raise_runs (s : State) (a : Alarm) :
    (s.raise a).runs = s.runs := rfl
@[simp] theorem State.raise_job (s : State) (a : Alarm) :
    (s.raise a).job = s.job := rfl
@[simp] theorem State.raise_stock (s : State) (a : Alarm) :
    (s.raise a).stock = s.stock := rfl
@[simp] theorem State.raise_bus (s : State) (a : Alarm) :
    (s.raise a).bus = s.bus := rfl
@[simp] theorem State.raise_share (s : State) (a : Alarm) :
    (s.raise a).share = s.share := rfl
@[simp] theorem State.raise_refill (s : State) (a : Alarm) :
    (s.raise a).refill = s.refill := rfl
@[simp] theorem State.raise_port (s : State) (a : Alarm) :
    (s.raise a).port = { s.port with alarms := s.port.alarms ||| a.word } := rfl
@[simp] theorem State.raise_lines (s : State) (a : Alarm) :
    (s.raise a).lines = s.lines := rfl
@[simp] theorem State.raise_outs (s : State) (a : Alarm) :
    (s.raise a).outs = s.outs := rfl
@[simp] theorem State.raise_pending (s : State) (a : Alarm) :
    (s.raise a).pending = s.pending := rfl

/-! ## driveOutputs -/

@[simp] theorem State.driveOutputs_acct (s : State) :
    s.driveOutputs.acct = s.acct := rfl
@[simp] theorem State.driveOutputs_grants (s : State) :
    s.driveOutputs.grants = s.grants := rfl
@[simp] theorem State.driveOutputs_slots (s : State) :
    s.driveOutputs.slots = s.slots := rfl
@[simp] theorem State.driveOutputs_rates (s : State) :
    s.driveOutputs.rates = s.rates := rfl
@[simp] theorem State.driveOutputs_runs (s : State) :
    s.driveOutputs.runs = s.runs := rfl
@[simp] theorem State.driveOutputs_job (s : State) :
    s.driveOutputs.job = s.job := rfl
@[simp] theorem State.driveOutputs_stock (s : State) :
    s.driveOutputs.stock = s.stock := rfl
@[simp] theorem State.driveOutputs_bus (s : State) :
    s.driveOutputs.bus = s.bus := rfl
@[simp] theorem State.driveOutputs_share (s : State) :
    s.driveOutputs.share = s.share := rfl
@[simp] theorem State.driveOutputs_refill (s : State) :
    s.driveOutputs.refill = s.refill := rfl
@[simp] theorem State.driveOutputs_port (s : State) :
    s.driveOutputs.port = s.port := rfl
@[simp] theorem State.driveOutputs_lines (s : State) :
    s.driveOutputs.lines = s.lines := rfl
@[simp] theorem State.driveOutputs_outs (s : State) :
    s.driveOutputs.outs = ⟨s.printLevel, s.feedLevel .a, s.feedLevel .b, s.attnLevel, s.canLevel,
      impDataLevels s.linkBits, impStrobeLevels s.linkBits⟩ := rfl
@[simp] theorem State.driveOutputs_pending (s : State) :
    s.driveOutputs.pending = s.pending := rfl

/-! ## shiftOut -/

@[simp] theorem State.shiftOut_acct (s : State) :
    s.shiftOut.acct = s.acct := rfl
@[simp] theorem State.shiftOut_grants (s : State) :
    s.shiftOut.grants = s.grants := rfl
@[simp] theorem State.shiftOut_slots (s : State) :
    s.shiftOut.slots = s.slots := rfl
@[simp] theorem State.shiftOut_rates (s : State) :
    s.shiftOut.rates = s.rates := rfl
@[simp] theorem State.shiftOut_runs (s : State) :
    s.shiftOut.runs = s.runs := rfl
@[simp] theorem State.shiftOut_job (s : State) :
    s.shiftOut.job = s.job := rfl
@[simp] theorem State.shiftOut_stock (s : State) :
    s.shiftOut.stock = s.stock := rfl
@[simp] theorem State.shiftOut_bus (s : State) :
    s.shiftOut.bus = s.bus := rfl
@[simp] theorem State.shiftOut_share (s : State) :
    s.shiftOut.share = s.share := rfl
@[simp] theorem State.shiftOut_refill (s : State) :
    s.shiftOut.refill = s.refill := rfl
@[simp] theorem State.shiftOut_port (s : State) :
    s.shiftOut.port = { s.port with spiOut := .response s.port.response } := rfl
@[simp] theorem State.shiftOut_lines (s : State) :
    s.shiftOut.lines = s.lines := rfl
@[simp] theorem State.shiftOut_outs (s : State) :
    s.shiftOut.outs = s.outs := rfl
@[simp] theorem State.shiftOut_pending (s : State) :
    s.shiftOut.pending = s.pending := rfl

/-! ## answer -/

@[simp] theorem State.answer_acct (s : State) (r : Response) :
    (s.answer r).acct = s.acct := rfl
@[simp] theorem State.answer_grants (s : State) (r : Response) :
    (s.answer r).grants = s.grants := rfl
@[simp] theorem State.answer_slots (s : State) (r : Response) :
    (s.answer r).slots = s.slots := rfl
@[simp] theorem State.answer_rates (s : State) (r : Response) :
    (s.answer r).rates = s.rates := rfl
@[simp] theorem State.answer_runs (s : State) (r : Response) :
    (s.answer r).runs = s.runs := rfl
@[simp] theorem State.answer_job (s : State) (r : Response) :
    (s.answer r).job = s.job := rfl
@[simp] theorem State.answer_stock (s : State) (r : Response) :
    (s.answer r).stock = s.stock := rfl
@[simp] theorem State.answer_bus (s : State) (r : Response) :
    (s.answer r).bus = s.bus := rfl
@[simp] theorem State.answer_share (s : State) (r : Response) :
    (s.answer r).share = s.share := rfl
@[simp] theorem State.answer_refill (s : State) (r : Response) :
    (s.answer r).refill = s.refill := rfl
@[simp] theorem State.answer_port (s : State) (r : Response) :
    (s.answer r).port = { s.port with response := r } := rfl
@[simp] theorem State.answer_lines (s : State) (r : Response) :
    (s.answer r).lines = s.lines := rfl
@[simp] theorem State.answer_outs (s : State) (r : Response) :
    (s.answer r).outs = s.outs := rfl
@[simp] theorem State.answer_pending (s : State) (r : Response) :
    (s.answer r).pending = s.pending := rfl

/-! ## Updates that may change nothing -/

@[simp] theorem State.setGrant_frame (s : State) (g : Nat) (r : Grant) :
    (s.setGrant g r).acct = s.acct ∧
    (s.setGrant g r).slots = s.slots ∧
    (s.setGrant g r).rates = s.rates ∧
    (s.setGrant g r).runs = s.runs ∧
    (s.setGrant g r).job = s.job ∧
    (s.setGrant g r).stock = s.stock ∧
    (s.setGrant g r).bus = s.bus ∧
    (s.setGrant g r).share = s.share ∧
    (s.setGrant g r).refill = s.refill ∧
    (s.setGrant g r).port = s.port ∧
    (s.setGrant g r).lines = s.lines ∧
    (s.setGrant g r).outs = s.outs ∧
    (s.setGrant g r).pending = s.pending ∧
    (s.setGrant g r).grants.period = s.grants.period := by
  unfold State.setGrant; split <;> simp

@[simp] theorem State.raiseIf_frame (s : State) (c : Bool) (a : Alarm) :
    (s.raiseIf c a).acct = s.acct ∧
    (s.raiseIf c a).grants = s.grants ∧
    (s.raiseIf c a).slots = s.slots ∧
    (s.raiseIf c a).rates = s.rates ∧
    (s.raiseIf c a).runs = s.runs ∧
    (s.raiseIf c a).job = s.job ∧
    (s.raiseIf c a).stock = s.stock ∧
    (s.raiseIf c a).bus = s.bus ∧
    (s.raiseIf c a).share = s.share ∧
    (s.raiseIf c a).refill = s.refill ∧
    (s.raiseIf c a).lines = s.lines ∧
    (s.raiseIf c a).outs = s.outs ∧
    (s.raiseIf c a).pending = s.pending := by
  unfold State.raiseIf; split <;> simp

@[simp] theorem State.endSnapshot_frame (s : State) (r : Response) :
    (s.endSnapshot r).acct = s.acct ∧
    (s.endSnapshot r).grants = s.grants ∧
    (s.endSnapshot r).slots = s.slots ∧
    (s.endSnapshot r).rates = s.rates ∧
    (s.endSnapshot r).runs = s.runs ∧
    (s.endSnapshot r).job = s.job ∧
    (s.endSnapshot r).stock = s.stock ∧
    (s.endSnapshot r).bus = s.bus ∧
    (s.endSnapshot r).share = s.share ∧
    (s.endSnapshot r).refill = s.refill ∧
    (s.endSnapshot r).lines = s.lines ∧
    (s.endSnapshot r).outs = s.outs ∧
    (s.endSnapshot r).pending = s.pending := by
  unfold State.endSnapshot; split <;> simp

/-- A conditional alarm's effect on the port: only the alarm word. -/
@[simp] theorem State.raiseIf_port (s : State) (c : Bool) (a : Alarm) :
    (s.raiseIf c a).port = { s.port with alarms := if c then s.port.alarms ||| a.word else s.port.alarms } := by
  unfold State.raiseIf; split <;> simp

/-! ## Lines -/

/-- The lines with a qualifier replaced, read at the same line and at another. -/
@[simp] theorem LineBank.get_set (b : LineBank) (l : Line) (q : Qualifier) : (b.set l q).get l = q := by
  cases l <;> rfl

theorem LineBank.get_set_ne (b : LineBank) {l m : Line} (q : Qualifier) (h : m ≠ l) :
    (b.set l q).get m = b.get m := by
  cases l <;> cases m <;> first | rfl | exact absurd rfl h

/-- A qualifier brought to a level is settled there. -/
@[simp] theorem Qualifier.taken_settled (q : Qualifier) (b : Bool) : (q.taken b).settled = true := by
  unfold Qualifier.taken; split <;> simp_all

@[simp] theorem Qualifier.taken_level (q : Qualifier) (b : Bool) : (q.taken b).level = b := by
  unfold Qualifier.taken; split <;> simp_all

/-- One that has taken the level already stays as it is. -/
theorem Qualifier.taken_self {q : Qualifier} {b : Bool} (hs : q.settled = true) (hl : q.level = b) :
    q.taken b = q := by
  unfold Qualifier.taken; rw [if_pos ⟨hs, hl⟩]

/-! ## The imprint link -/

/-- With no record being sent both lines of the imprint link stay low (R194). -/
theorem State.linkBits_idle {s : State} (h : s.runs.sending = []) :
    s.linkBits = [] ∧ impDataLevels s.linkBits = [false] ∧ impStrobeLevels s.linkBits = [false] := by
  unfold State.linkBits; rw [h]; exact ⟨rfl, rfl, rfl⟩

/-- While the station does not send, CAN_TX is recessive (R115). -/
theorem State.canLevel_quiet {s : State} (h : s.busSends = false) : s.canLevel = .recessive := by
  unfold State.canLevel; split <;> simp_all

/-- The end of a step answers the state with its outputs driven, and nothing else. -/
@[simp] theorem done_eq (s : State) : done s = .next s.driveOutputs := rfl

/-- What a step that ends in `done` answers. -/
theorem done_next {s t : State} : done s = .next t ↔ s.driveOutputs = t := by
  simp only [done_eq, Host.Outcome.next.injEq]

end Sys2Proof.Machine
end

