-- ==== Sys2Proof/Laws/Frames.lean ====
section
/-! SUPPORT. The frame of each shared operation: which fields of State, and which parts of a field it
writes, it leaves as they were. Tagged simp, so that a later proof reads a field through a chain of
operations without unfolding one. -/

namespace Sys2Proof.Machine

@[simp] theorem State.post_frame (s : State) (p : Posting) :
    (s.post p).grants = s.grants ∧
    (s.post p).slots = s.slots ∧
    (s.post p).rates = s.rates ∧
    (s.post p).runs = s.runs ∧
    (s.post p).job = s.job ∧
    (s.post p).stock = s.stock ∧
    (s.post p).bus = s.bus ∧
    (s.post p).share = s.share ∧
    (s.post p).refill = s.refill ∧
    (s.post p).lines = s.lines ∧
    (s.post p).outs = s.outs ∧
    (s.post p).pending = s.pending ∧
    (s.post p).port.settings = s.port.settings ∧
    (s.post p).port.response = s.port.response ∧
    (s.post p).port.spiOut = s.port.spiOut ∧
    (s.post p).port.snapshot = s.port.snapshot ∧
    (s.post p).port.protection = s.port.protection ∧
    (s.post p).port.mask = s.port.mask := by
  unfold State.post; simp

@[simp] theorem State.loadFront_frame (s : State) :
    s.loadFront.acct = s.acct ∧
    s.loadFront.grants = s.grants ∧
    s.loadFront.slots = s.slots ∧
    s.loadFront.rates = s.rates ∧
    s.loadFront.runs = s.runs ∧
    s.loadFront.job = s.job ∧
    s.loadFront.stock = s.stock ∧
    s.loadFront.share = s.share ∧
    s.loadFront.refill = s.refill ∧
    s.loadFront.port = s.port ∧
    s.loadFront.lines = s.lines ∧
    s.loadFront.outs = s.outs ∧
    s.loadFront.pending = s.pending ∧
    s.loadFront.bus.state = s.bus.state ∧
    s.loadFront.bus.controllerOn = s.bus.controllerOn ∧
    s.loadFront.bus.standingTimer = s.bus.standingTimer ∧
    s.loadFront.bus.announcedSurplus = s.bus.announcedSurplus ∧
    s.loadFront.bus.announcedFlags = s.bus.announcedFlags ∧
    s.loadFront.bus.ignored = s.bus.ignored ∧
    s.loadFront.bus.peers = s.bus.peers := by
  unfold State.loadFront; split <;> simp

@[simp] theorem State.enqueue_frame (s : State) (f : BusFrame) :
    (s.enqueue f).acct = s.acct ∧
    (s.enqueue f).grants = s.grants ∧
    (s.enqueue f).slots = s.slots ∧
    (s.enqueue f).rates = s.rates ∧
    (s.enqueue f).runs = s.runs ∧
    (s.enqueue f).job = s.job ∧
    (s.enqueue f).stock = s.stock ∧
    (s.enqueue f).share = s.share ∧
    (s.enqueue f).refill = s.refill ∧
    (s.enqueue f).lines = s.lines ∧
    (s.enqueue f).outs = s.outs ∧
    (s.enqueue f).pending = s.pending ∧
    (s.enqueue f).bus.state = s.bus.state ∧
    (s.enqueue f).bus.controllerOn = s.bus.controllerOn ∧
    (s.enqueue f).bus.standingTimer = s.bus.standingTimer ∧
    (s.enqueue f).bus.announcedSurplus = s.bus.announcedSurplus ∧
    (s.enqueue f).bus.announcedFlags = s.bus.announcedFlags ∧
    (s.enqueue f).bus.ignored = s.bus.ignored ∧
    (s.enqueue f).bus.peers = s.bus.peers ∧
    (s.enqueue f).port.settings = s.port.settings ∧
    (s.enqueue f).port.response = s.port.response ∧
    (s.enqueue f).port.spiOut = s.port.spiOut ∧
    (s.enqueue f).port.snapshot = s.port.snapshot ∧
    (s.enqueue f).port.protection = s.port.protection ∧
    (s.enqueue f).port.mask = s.port.mask := by
  unfold State.enqueue; (repeat' split) <;> simp

@[simp] theorem State.handOver_frame (s : State) (f : BusFrame) :
    (s.handOver f).acct = s.acct ∧
    (s.handOver f).grants = s.grants ∧
    (s.handOver f).slots = s.slots ∧
    (s.handOver f).rates = s.rates ∧
    (s.handOver f).runs = s.runs ∧
    (s.handOver f).job = s.job ∧
    (s.handOver f).stock = s.stock ∧
    (s.handOver f).share = s.share ∧
    (s.handOver f).refill = s.refill ∧
    (s.handOver f).lines = s.lines ∧
    (s.handOver f).outs = s.outs ∧
    (s.handOver f).pending = s.pending ∧
    (s.handOver f).bus.state = s.bus.state ∧
    (s.handOver f).bus.controllerOn = s.bus.controllerOn ∧
    (s.handOver f).bus.standingTimer = s.bus.standingTimer ∧
    (s.handOver f).bus.announcedSurplus = s.bus.announcedSurplus ∧
    (s.handOver f).bus.announcedFlags = s.bus.announcedFlags ∧
    (s.handOver f).bus.ignored = s.bus.ignored ∧
    (s.handOver f).bus.peers = s.bus.peers ∧
    (s.handOver f).port.settings = s.port.settings ∧
    (s.handOver f).port.response = s.port.response ∧
    (s.handOver f).port.spiOut = s.port.spiOut ∧
    (s.handOver f).port.snapshot = s.port.snapshot ∧
    (s.handOver f).port.protection = s.port.protection ∧
    (s.handOver f).port.mask = s.port.mask := by
  unfold State.handOver; simp

@[simp] theorem State.placeStanding_frame (s : State) :
    s.placeStanding.acct = s.acct ∧
    s.placeStanding.grants = s.grants ∧
    s.placeStanding.slots = s.slots ∧
    s.placeStanding.rates = s.rates ∧
    s.placeStanding.runs = s.runs ∧
    s.placeStanding.job = s.job ∧
    s.placeStanding.stock = s.stock ∧
    s.placeStanding.share = s.share ∧
    s.placeStanding.refill = s.refill ∧
    s.placeStanding.lines = s.lines ∧
    s.placeStanding.outs = s.outs ∧
    s.placeStanding.pending = s.pending ∧
    s.placeStanding.bus.state = s.bus.state ∧
    s.placeStanding.bus.controllerOn = s.bus.controllerOn ∧
    s.placeStanding.bus.standingTimer = s.bus.standingTimer ∧
    s.placeStanding.bus.ignored = s.bus.ignored ∧
    s.placeStanding.bus.peers = s.bus.peers ∧
    s.placeStanding.port.settings = s.port.settings ∧
    s.placeStanding.port.response = s.port.response ∧
    s.placeStanding.port.spiOut = s.port.spiOut ∧
    s.placeStanding.port.snapshot = s.port.snapshot ∧
    s.placeStanding.port.protection = s.port.protection ∧
    s.placeStanding.port.mask = s.port.mask := by
  unfold State.placeStanding; (repeat' split) <;> simp

@[simp] theorem State.resendSettled_frame (s : State) :
    s.resendSettled.acct = s.acct ∧
    s.resendSettled.grants = s.grants ∧
    s.resendSettled.slots = s.slots ∧
    s.resendSettled.rates = s.rates ∧
    s.resendSettled.runs = s.runs ∧
    s.resendSettled.job = s.job ∧
    s.resendSettled.stock = s.stock ∧
    s.resendSettled.share = s.share ∧
    s.resendSettled.refill = s.refill ∧
    s.resendSettled.lines = s.lines ∧
    s.resendSettled.outs = s.outs ∧
    s.resendSettled.pending = s.pending ∧
    s.resendSettled.bus.state = s.bus.state ∧
    s.resendSettled.bus.controllerOn = s.bus.controllerOn ∧
    s.resendSettled.bus.standingTimer = s.bus.standingTimer ∧
    s.resendSettled.bus.announcedSurplus = s.bus.announcedSurplus ∧
    s.resendSettled.bus.announcedFlags = s.bus.announcedFlags ∧
    s.resendSettled.bus.ignored = s.bus.ignored ∧
    s.resendSettled.bus.peers = s.bus.peers ∧
    s.resendSettled.port.settings = s.port.settings ∧
    s.resendSettled.port.response = s.port.response ∧
    s.resendSettled.port.spiOut = s.port.spiOut ∧
    s.resendSettled.port.snapshot = s.port.snapshot ∧
    s.resendSettled.port.protection = s.port.protection ∧
    s.resendSettled.port.mask = s.port.mask := by
  unfold State.resendSettled
  generalize s.share.outRecord = l
  induction l generalizing s with
  | nil => simp
  | cons x l ih => simpa using ih (s.enqueue x.settled)

@[simp] theorem State.handStanding_frame (s : State) :
    s.handStanding.acct = s.acct ∧
    s.handStanding.grants = s.grants ∧
    s.handStanding.slots = s.slots ∧
    s.handStanding.rates = s.rates ∧
    s.handStanding.runs = s.runs ∧
    s.handStanding.job = s.job ∧
    s.handStanding.stock = s.stock ∧
    s.handStanding.share = s.share ∧
    s.handStanding.refill = s.refill ∧
    s.handStanding.lines = s.lines ∧
    s.handStanding.outs = s.outs ∧
    s.handStanding.pending = s.pending ∧
    s.handStanding.bus.state = s.bus.state ∧
    s.handStanding.bus.controllerOn = s.bus.controllerOn ∧
    s.handStanding.bus.ignored = s.bus.ignored ∧
    s.handStanding.bus.peers = s.bus.peers ∧
    s.handStanding.port.settings = s.port.settings ∧
    s.handStanding.port.response = s.port.response ∧
    s.handStanding.port.spiOut = s.port.spiOut ∧
    s.handStanding.port.snapshot = s.port.snapshot ∧
    s.handStanding.port.protection = s.port.protection ∧
    s.handStanding.port.mask = s.port.mask := by
  unfold State.handStanding; split <;> simp

@[simp] theorem State.evalStanding_frame (s : State) :
    s.evalStanding.acct = s.acct ∧
    s.evalStanding.grants = s.grants ∧
    s.evalStanding.slots = s.slots ∧
    s.evalStanding.rates = s.rates ∧
    s.evalStanding.runs = s.runs ∧
    s.evalStanding.job = s.job ∧
    s.evalStanding.stock = s.stock ∧
    s.evalStanding.share = s.share ∧
    s.evalStanding.refill = s.refill ∧
    s.evalStanding.lines = s.lines ∧
    s.evalStanding.outs = s.outs ∧
    s.evalStanding.pending = s.pending ∧
    s.evalStanding.bus.state = s.bus.state ∧
    s.evalStanding.bus.controllerOn = s.bus.controllerOn ∧
    s.evalStanding.bus.ignored = s.bus.ignored ∧
    s.evalStanding.bus.peers = s.bus.peers ∧
    s.evalStanding.port.settings = s.port.settings ∧
    s.evalStanding.port.response = s.port.response ∧
    s.evalStanding.port.spiOut = s.port.spiOut ∧
    s.evalStanding.port.snapshot = s.port.snapshot ∧
    s.evalStanding.port.protection = s.port.protection ∧
    s.evalStanding.port.mask = s.port.mask := by
  unfold State.evalStanding; split <;> simp

@[simp] theorem State.enterJoining_frame (s : State) (b : Bool) :
    (s.enterJoining b).acct = s.acct ∧
    (s.enterJoining b).grants = s.grants ∧
    (s.enterJoining b).slots = s.slots ∧
    (s.enterJoining b).rates = s.rates ∧
    (s.enterJoining b).runs = s.runs ∧
    (s.enterJoining b).job = s.job ∧
    (s.enterJoining b).stock = s.stock ∧
    (s.enterJoining b).share = s.share ∧
    (s.enterJoining b).refill = s.refill ∧
    (s.enterJoining b).lines = s.lines ∧
    (s.enterJoining b).outs = s.outs ∧
    (s.enterJoining b).pending = s.pending ∧
    (s.enterJoining b).bus.ignored = s.bus.ignored ∧
    (s.enterJoining b).bus.peers = s.bus.peers ∧
    (s.enterJoining b).port.settings = s.port.settings ∧
    (s.enterJoining b).port.response = s.port.response ∧
    (s.enterJoining b).port.spiOut = s.port.spiOut ∧
    (s.enterJoining b).port.snapshot = s.port.snapshot ∧
    (s.enterJoining b).port.protection = s.port.protection ∧
    (s.enterJoining b).port.mask = s.port.mask := by
  unfold State.enterJoining; simp

@[simp] theorem State.openWant_frame (s : State) :
    s.openWant.acct = s.acct ∧
    s.openWant.grants = s.grants ∧
    s.openWant.slots = s.slots ∧
    s.openWant.rates = s.rates ∧
    s.openWant.runs = s.runs ∧
    s.openWant.job = s.job ∧
    s.openWant.stock = s.stock ∧
    s.openWant.refill = s.refill ∧
    s.openWant.lines = s.lines ∧
    s.openWant.outs = s.outs ∧
    s.openWant.pending = s.pending ∧
    s.openWant.bus.state = s.bus.state ∧
    s.openWant.bus.controllerOn = s.bus.controllerOn ∧
    s.openWant.bus.ignored = s.bus.ignored ∧
    s.openWant.bus.peers = s.bus.peers ∧
    s.openWant.share.settleTimer = s.share.settleTimer ∧
    s.openWant.share.retry = s.share.retry ∧
    s.openWant.share.lastPledge = s.share.lastPledge ∧
    s.openWant.share.pledges = s.share.pledges ∧
    s.openWant.share.outRecord = s.share.outRecord ∧
    s.openWant.share.unresolved = s.share.unresolved ∧
    s.openWant.share.writtenOff = s.share.writtenOff ∧
    s.openWant.port.settings = s.port.settings ∧
    s.openWant.port.response = s.port.response ∧
    s.openWant.port.spiOut = s.port.spiOut ∧
    s.openWant.port.snapshot = s.port.snapshot ∧
    s.openWant.port.protection = s.port.protection ∧
    s.openWant.port.mask = s.port.mask := by
  unfold State.openWant; simp

@[simp] theorem State.evalWant_frame (s : State) :
    s.evalWant.acct = s.acct ∧
    s.evalWant.grants = s.grants ∧
    s.evalWant.slots = s.slots ∧
    s.evalWant.rates = s.rates ∧
    s.evalWant.runs = s.runs ∧
    s.evalWant.job = s.job ∧
    s.evalWant.stock = s.stock ∧
    s.evalWant.refill = s.refill ∧
    s.evalWant.lines = s.lines ∧
    s.evalWant.outs = s.outs ∧
    s.evalWant.pending = s.pending ∧
    s.evalWant.bus.state = s.bus.state ∧
    s.evalWant.bus.controllerOn = s.bus.controllerOn ∧
    s.evalWant.bus.ignored = s.bus.ignored ∧
    s.evalWant.bus.peers = s.bus.peers ∧
    s.evalWant.share.settleTimer = s.share.settleTimer ∧
    s.evalWant.share.retry = s.share.retry ∧
    s.evalWant.share.lastPledge = s.share.lastPledge ∧
    s.evalWant.share.pledges = s.share.pledges ∧
    s.evalWant.share.outRecord = s.share.outRecord ∧
    s.evalWant.share.unresolved = s.share.unresolved ∧
    s.evalWant.share.writtenOff = s.share.writtenOff ∧
    s.evalWant.port.settings = s.port.settings ∧
    s.evalWant.port.response = s.port.response ∧
    s.evalWant.port.spiOut = s.port.spiOut ∧
    s.evalWant.port.snapshot = s.port.snapshot ∧
    s.evalWant.port.protection = s.port.protection ∧
    s.evalWant.port.mask = s.port.mask := by
  unfold State.evalWant; (repeat' split) <;> simp

@[simp] theorem State.closeWant_frame (s : State) :
    s.closeWant.acct = s.acct ∧
    s.closeWant.grants = s.grants ∧
    s.closeWant.slots = s.slots ∧
    s.closeWant.rates = s.rates ∧
    s.closeWant.runs = s.runs ∧
    s.closeWant.job = s.job ∧
    s.closeWant.stock = s.stock ∧
    s.closeWant.bus = s.bus ∧
    s.closeWant.refill = s.refill ∧
    s.closeWant.port = s.port ∧
    s.closeWant.lines = s.lines ∧
    s.closeWant.outs = s.outs ∧
    s.closeWant.pending = s.pending ∧
    s.closeWant.share.request = s.share.request ∧
    s.closeWant.share.lastWant = s.share.lastWant ∧
    s.closeWant.share.lastPledge = s.share.lastPledge ∧
    s.closeWant.share.pledges = s.share.pledges ∧
    s.closeWant.share.outRecord = s.share.outRecord ∧
    s.closeWant.share.unresolved = s.share.unresolved ∧
    s.closeWant.share.writtenOff = s.share.writtenOff := by
  unfold State.closeWant; simp

@[simp] theorem State.afterAvail_frame (s : State) :
    s.afterAvail.acct = s.acct ∧
    s.afterAvail.grants = s.grants ∧
    s.afterAvail.slots = s.slots ∧
    s.afterAvail.rates = s.rates ∧
    s.afterAvail.runs = s.runs ∧
    s.afterAvail.job = s.job ∧
    s.afterAvail.stock = s.stock ∧
    s.afterAvail.refill = s.refill ∧
    s.afterAvail.lines = s.lines ∧
    s.afterAvail.outs = s.outs ∧
    s.afterAvail.pending = s.pending ∧
    s.afterAvail.bus.state = s.bus.state ∧
    s.afterAvail.bus.controllerOn = s.bus.controllerOn ∧
    s.afterAvail.bus.ignored = s.bus.ignored ∧
    s.afterAvail.bus.peers = s.bus.peers ∧
    s.afterAvail.share.settleTimer = s.share.settleTimer ∧
    s.afterAvail.share.retry = s.share.retry ∧
    s.afterAvail.share.lastPledge = s.share.lastPledge ∧
    s.afterAvail.share.pledges = s.share.pledges ∧
    s.afterAvail.share.outRecord = s.share.outRecord ∧
    s.afterAvail.share.unresolved = s.share.unresolved ∧
    s.afterAvail.share.writtenOff = s.share.writtenOff ∧
    s.afterAvail.port.settings = s.port.settings ∧
    s.afterAvail.port.response = s.port.response ∧
    s.afterAvail.port.spiOut = s.port.spiOut ∧
    s.afterAvail.port.snapshot = s.port.snapshot ∧
    s.afterAvail.port.protection = s.port.protection ∧
    s.afterAvail.port.mask = s.port.mask := by
  unfold State.afterAvail; simp

@[simp] theorem State.enterExhausted_frame (s : State) :
    s.enterExhausted.grants = s.grants ∧
    s.enterExhausted.slots = s.slots ∧
    s.enterExhausted.rates = s.rates ∧
    s.enterExhausted.runs = s.runs ∧
    s.enterExhausted.job = s.job ∧
    s.enterExhausted.stock = s.stock ∧
    s.enterExhausted.refill = s.refill ∧
    s.enterExhausted.lines = s.lines ∧
    s.enterExhausted.outs = s.outs ∧
    s.enterExhausted.pending = s.pending ∧
    s.enterExhausted.acct.avail = s.acct.avail ∧
    s.enterExhausted.acct.held = s.acct.held ∧
    s.enterExhausted.acct.escrow = s.acct.escrow ∧
    s.enterExhausted.acct.used = s.acct.used ∧
    s.enterExhausted.acct.spoiled = s.acct.spoiled ∧
    s.enterExhausted.acct.control = s.acct.control ∧
    s.enterExhausted.acct.incoming = s.acct.incoming ∧
    s.enterExhausted.acct.imprintNo = s.acct.imprintNo ∧
    s.enterExhausted.acct.restartSpoil = s.acct.restartSpoil ∧
    s.enterExhausted.bus.state = s.bus.state ∧
    s.enterExhausted.bus.controllerOn = s.bus.controllerOn ∧
    s.enterExhausted.bus.ignored = s.bus.ignored ∧
    s.enterExhausted.bus.peers = s.bus.peers ∧
    s.enterExhausted.share.settleTimer = s.share.settleTimer ∧
    s.enterExhausted.share.retry = s.share.retry ∧
    s.enterExhausted.share.lastPledge = s.share.lastPledge ∧
    s.enterExhausted.share.pledges = s.share.pledges ∧
    s.enterExhausted.share.outRecord = s.share.outRecord ∧
    s.enterExhausted.share.unresolved = s.share.unresolved ∧
    s.enterExhausted.share.writtenOff = s.share.writtenOff ∧
    s.enterExhausted.port.settings = s.port.settings ∧
    s.enterExhausted.port.response = s.port.response ∧
    s.enterExhausted.port.spiOut = s.port.spiOut ∧
    s.enterExhausted.port.snapshot = s.port.snapshot ∧
    s.enterExhausted.port.protection = s.port.protection ∧
    s.enterExhausted.port.mask = s.port.mask := by
  unfold State.enterExhausted; simp

@[simp] theorem State.closeSlot_frame (s : State) (i : Nat) (c : CloseReason) :
    (s.closeSlot i c).acct = s.acct ∧
    (s.closeSlot i c).rates = s.rates ∧
    (s.closeSlot i c).runs = s.runs ∧
    (s.closeSlot i c).job = s.job ∧
    (s.closeSlot i c).stock = s.stock ∧
    (s.closeSlot i c).bus = s.bus ∧
    (s.closeSlot i c).share = s.share ∧
    (s.closeSlot i c).refill = s.refill ∧
    (s.closeSlot i c).lines = s.lines ∧
    (s.closeSlot i c).outs = s.outs ∧
    (s.closeSlot i c).pending = s.pending ∧
    (s.closeSlot i c).grants.period = s.grants.period ∧
    (s.closeSlot i c).port.settings = s.port.settings ∧
    (s.closeSlot i c).port.response = s.port.response ∧
    (s.closeSlot i c).port.spiOut = s.port.spiOut ∧
    (s.closeSlot i c).port.snapshot = s.port.snapshot ∧
    (s.closeSlot i c).port.protection = s.port.protection ∧
    (s.closeSlot i c).port.mask = s.port.mask := by
  unfold State.closeSlot; simp

@[simp] theorem State.slotRunEnded_frame (s : State) (i id : Nat) :
    (s.slotRunEnded i id).acct = s.acct ∧
    (s.slotRunEnded i id).rates = s.rates ∧
    (s.slotRunEnded i id).runs = s.runs ∧
    (s.slotRunEnded i id).job = s.job ∧
    (s.slotRunEnded i id).stock = s.stock ∧
    (s.slotRunEnded i id).bus = s.bus ∧
    (s.slotRunEnded i id).share = s.share ∧
    (s.slotRunEnded i id).refill = s.refill ∧
    (s.slotRunEnded i id).lines = s.lines ∧
    (s.slotRunEnded i id).outs = s.outs ∧
    (s.slotRunEnded i id).pending = s.pending ∧
    (s.slotRunEnded i id).grants.period = s.grants.period ∧
    (s.slotRunEnded i id).port.settings = s.port.settings ∧
    (s.slotRunEnded i id).port.response = s.port.response ∧
    (s.slotRunEnded i id).port.spiOut = s.port.spiOut ∧
    (s.slotRunEnded i id).port.snapshot = s.port.snapshot ∧
    (s.slotRunEnded i id).port.protection = s.port.protection ∧
    (s.slotRunEnded i id).port.mask = s.port.mask := by
  unfold State.slotRunEnded; dsimp only; (repeat' split) <;> simp

@[simp] theorem State.slotRunStarted_frame (s : State) (r : Run) :
    (s.slotRunStarted r).acct = s.acct ∧
    (s.slotRunStarted r).grants = s.grants ∧
    (s.slotRunStarted r).rates = s.rates ∧
    (s.slotRunStarted r).runs = s.runs ∧
    (s.slotRunStarted r).job = s.job ∧
    (s.slotRunStarted r).stock = s.stock ∧
    (s.slotRunStarted r).bus = s.bus ∧
    (s.slotRunStarted r).share = s.share ∧
    (s.slotRunStarted r).refill = s.refill ∧
    (s.slotRunStarted r).port = s.port ∧
    (s.slotRunStarted r).lines = s.lines ∧
    (s.slotRunStarted r).outs = s.outs ∧
    (s.slotRunStarted r).pending = s.pending := by
  unfold State.slotRunStarted; simp

@[simp] theorem State.dayAdvance_frame (s : State) (d : Nat) :
    (s.dayAdvance d).acct = s.acct ∧
    (s.dayAdvance d).grants = s.grants ∧
    (s.dayAdvance d).slots = s.slots ∧
    (s.dayAdvance d).runs = s.runs ∧
    (s.dayAdvance d).job = s.job ∧
    (s.dayAdvance d).stock = s.stock ∧
    (s.dayAdvance d).bus = s.bus ∧
    (s.dayAdvance d).share = s.share ∧
    (s.dayAdvance d).port = s.port ∧
    (s.dayAdvance d).lines = s.lines ∧
    (s.dayAdvance d).outs = s.outs ∧
    (s.dayAdvance d).pending = s.pending := by
  unfold State.dayAdvance; simp

@[simp] theorem State.evalContact_frame (s : State) :
    s.evalContact.grants = s.grants ∧
    s.evalContact.slots = s.slots ∧
    s.evalContact.rates = s.rates ∧
    s.evalContact.runs = s.runs ∧
    s.evalContact.job = s.job ∧
    s.evalContact.stock = s.stock ∧
    s.evalContact.bus = s.bus ∧
    s.evalContact.share = s.share ∧
    s.evalContact.refill = s.refill ∧
    s.evalContact.lines = s.lines ∧
    s.evalContact.outs = s.outs ∧
    s.evalContact.pending = s.pending ∧
    s.evalContact.acct.avail = s.acct.avail ∧
    s.evalContact.acct.held = s.acct.held ∧
    s.evalContact.acct.escrow = s.acct.escrow ∧
    s.evalContact.acct.used = s.acct.used ∧
    s.evalContact.acct.spoiled = s.acct.spoiled ∧
    s.evalContact.acct.control = s.acct.control ∧
    s.evalContact.acct.incoming = s.acct.incoming ∧
    s.evalContact.acct.imprintNo = s.acct.imprintNo ∧
    s.evalContact.acct.exhaustedMark = s.acct.exhaustedMark ∧
    s.evalContact.acct.restartSpoil = s.acct.restartSpoil ∧
    s.evalContact.port.settings = s.port.settings ∧
    s.evalContact.port.response = s.port.response ∧
    s.evalContact.port.spiOut = s.port.spiOut ∧
    s.evalContact.port.snapshot = s.port.snapshot ∧
    s.evalContact.port.protection = s.port.protection ∧
    s.evalContact.port.mask = s.port.mask := by
  unfold State.evalContact; dsimp only; (repeat' split) <;> simp

@[simp] theorem State.appendRun_frame (s : State) (r : Run) :
    (s.appendRun r).acct = s.acct ∧
    (s.appendRun r).grants = s.grants ∧
    (s.appendRun r).slots = s.slots ∧
    (s.appendRun r).rates = s.rates ∧
    (s.appendRun r).job = s.job ∧
    (s.appendRun r).stock = s.stock ∧
    (s.appendRun r).bus = s.bus ∧
    (s.appendRun r).share = s.share ∧
    (s.appendRun r).refill = s.refill ∧
    (s.appendRun r).port = s.port ∧
    (s.appendRun r).lines = s.lines ∧
    (s.appendRun r).outs = s.outs ∧
    (s.appendRun r).pending = s.pending ∧
    (s.appendRun r).runs.inFlight = s.runs.inFlight ∧
    (s.appendRun r).runs.sending = s.runs.sending ∧
    (s.appendRun r).runs.sendTimer = s.runs.sendTimer ∧
    (s.appendRun r).runs.mechTimer = s.runs.mechTimer ∧
    (s.appendRun r).runs.finished = s.runs.finished ∧
    (s.appendRun r).runs.endedCount = s.runs.endedCount := by
  unfold State.appendRun; simp

@[simp] theorem State.walkerFault_frame (s : State) (r : StopReason) :
    (s.walkerFault r).acct = s.acct ∧
    (s.walkerFault r).grants = s.grants ∧
    (s.walkerFault r).slots = s.slots ∧
    (s.walkerFault r).rates = s.rates ∧
    (s.walkerFault r).runs = s.runs ∧
    (s.walkerFault r).stock = s.stock ∧
    (s.walkerFault r).bus = s.bus ∧
    (s.walkerFault r).share = s.share ∧
    (s.walkerFault r).refill = s.refill ∧
    (s.walkerFault r).lines = s.lines ∧
    (s.walkerFault r).outs = s.outs ∧
    (s.walkerFault r).pending = s.pending ∧
    (s.walkerFault r).job.memory = s.job.memory ∧
    (s.walkerFault r).port.settings = s.port.settings ∧
    (s.walkerFault r).port.response = s.port.response ∧
    (s.walkerFault r).port.spiOut = s.port.spiOut ∧
    (s.walkerFault r).port.snapshot = s.port.snapshot ∧
    (s.walkerFault r).port.protection = s.port.protection ∧
    (s.walkerFault r).port.mask = s.port.mask := by
  unfold State.walkerFault; simp

@[simp] theorem State.walkerAppend_frame (s : State) :
    s.walkerAppend.acct = s.acct ∧
    s.walkerAppend.grants = s.grants ∧
    s.walkerAppend.slots = s.slots ∧
    s.walkerAppend.rates = s.rates ∧
    s.walkerAppend.stock = s.stock ∧
    s.walkerAppend.bus = s.bus ∧
    s.walkerAppend.share = s.share ∧
    s.walkerAppend.refill = s.refill ∧
    s.walkerAppend.lines = s.lines ∧
    s.walkerAppend.outs = s.outs ∧
    s.walkerAppend.pending = s.pending ∧
    s.walkerAppend.runs.inFlight = s.runs.inFlight ∧
    s.walkerAppend.runs.sending = s.runs.sending ∧
    s.walkerAppend.runs.sendTimer = s.runs.sendTimer ∧
    s.walkerAppend.runs.mechTimer = s.runs.mechTimer ∧
    s.walkerAppend.runs.finished = s.runs.finished ∧
    s.walkerAppend.runs.endedCount = s.runs.endedCount ∧
    s.walkerAppend.job.memory = s.job.memory ∧
    s.walkerAppend.port.settings = s.port.settings ∧
    s.walkerAppend.port.response = s.port.response ∧
    s.walkerAppend.port.spiOut = s.port.spiOut ∧
    s.walkerAppend.port.snapshot = s.port.snapshot ∧
    s.walkerAppend.port.protection = s.port.protection ∧
    s.walkerAppend.port.mask = s.port.mask := by
  unfold State.walkerAppend; (repeat' split) <;> simp

@[simp] theorem State.walkerFetch_frame (s : State) (a : Nat) (x y : Bool) :
    (s.walkerFetch a x y).acct = s.acct ∧
    (s.walkerFetch a x y).grants = s.grants ∧
    (s.walkerFetch a x y).slots = s.slots ∧
    (s.walkerFetch a x y).rates = s.rates ∧
    (s.walkerFetch a x y).stock = s.stock ∧
    (s.walkerFetch a x y).bus = s.bus ∧
    (s.walkerFetch a x y).share = s.share ∧
    (s.walkerFetch a x y).refill = s.refill ∧
    (s.walkerFetch a x y).lines = s.lines ∧
    (s.walkerFetch a x y).outs = s.outs ∧
    (s.walkerFetch a x y).pending = s.pending ∧
    (s.walkerFetch a x y).runs.inFlight = s.runs.inFlight ∧
    (s.walkerFetch a x y).runs.sending = s.runs.sending ∧
    (s.walkerFetch a x y).runs.sendTimer = s.runs.sendTimer ∧
    (s.walkerFetch a x y).runs.mechTimer = s.runs.mechTimer ∧
    (s.walkerFetch a x y).runs.finished = s.runs.finished ∧
    (s.walkerFetch a x y).runs.endedCount = s.runs.endedCount ∧
    (s.walkerFetch a x y).job.memory = s.job.memory ∧
    (s.walkerFetch a x y).port.settings = s.port.settings ∧
    (s.walkerFetch a x y).port.response = s.port.response ∧
    (s.walkerFetch a x y).port.spiOut = s.port.spiOut ∧
    (s.walkerFetch a x y).port.snapshot = s.port.snapshot ∧
    (s.walkerFetch a x y).port.protection = s.port.protection ∧
    (s.walkerFetch a x y).port.mask = s.port.mask := by
  unfold State.walkerFetch; split <;> simp

@[simp] theorem State.walkerNext_frame (s : State) :
    s.walkerNext.acct = s.acct ∧
    s.walkerNext.grants = s.grants ∧
    s.walkerNext.slots = s.slots ∧
    s.walkerNext.rates = s.rates ∧
    s.walkerNext.stock = s.stock ∧
    s.walkerNext.bus = s.bus ∧
    s.walkerNext.share = s.share ∧
    s.walkerNext.refill = s.refill ∧
    s.walkerNext.lines = s.lines ∧
    s.walkerNext.outs = s.outs ∧
    s.walkerNext.pending = s.pending ∧
    s.walkerNext.runs.inFlight = s.runs.inFlight ∧
    s.walkerNext.runs.sending = s.runs.sending ∧
    s.walkerNext.runs.sendTimer = s.runs.sendTimer ∧
    s.walkerNext.runs.mechTimer = s.runs.mechTimer ∧
    s.walkerNext.runs.finished = s.runs.finished ∧
    s.walkerNext.runs.endedCount = s.runs.endedCount ∧
    s.walkerNext.job.memory = s.job.memory ∧
    s.walkerNext.port.settings = s.port.settings ∧
    s.walkerNext.port.response = s.port.response ∧
    s.walkerNext.port.spiOut = s.port.spiOut ∧
    s.walkerNext.port.snapshot = s.port.snapshot ∧
    s.walkerNext.port.protection = s.port.protection ∧
    s.walkerNext.port.mask = s.port.mask := by
  unfold State.walkerNext; simp

@[simp] theorem State.walkerFollow_frame (s : State) (c : LineCopy) :
    (s.walkerFollow c).acct = s.acct ∧
    (s.walkerFollow c).grants = s.grants ∧
    (s.walkerFollow c).slots = s.slots ∧
    (s.walkerFollow c).rates = s.rates ∧
    (s.walkerFollow c).stock = s.stock ∧
    (s.walkerFollow c).bus = s.bus ∧
    (s.walkerFollow c).share = s.share ∧
    (s.walkerFollow c).refill = s.refill ∧
    (s.walkerFollow c).lines = s.lines ∧
    (s.walkerFollow c).outs = s.outs ∧
    (s.walkerFollow c).pending = s.pending ∧
    (s.walkerFollow c).runs.inFlight = s.runs.inFlight ∧
    (s.walkerFollow c).runs.sending = s.runs.sending ∧
    (s.walkerFollow c).runs.sendTimer = s.runs.sendTimer ∧
    (s.walkerFollow c).runs.mechTimer = s.runs.mechTimer ∧
    (s.walkerFollow c).runs.finished = s.runs.finished ∧
    (s.walkerFollow c).runs.endedCount = s.runs.endedCount ∧
    (s.walkerFollow c).job.memory = s.job.memory ∧
    (s.walkerFollow c).port.settings = s.port.settings ∧
    (s.walkerFollow c).port.response = s.port.response ∧
    (s.walkerFollow c).port.spiOut = s.port.spiOut ∧
    (s.walkerFollow c).port.snapshot = s.port.snapshot ∧
    (s.walkerFollow c).port.protection = s.port.protection ∧
    (s.walkerFollow c).port.mask = s.port.mask := by
  unfold State.walkerFollow; (repeat' split) <;> simp

@[simp] theorem State.walkerHoldCredit_frame (s : State) (c : LineCopy) (n : Nat) :
    (s.walkerHoldCredit c n).acct = s.acct ∧
    (s.walkerHoldCredit c n).grants = s.grants ∧
    (s.walkerHoldCredit c n).slots = s.slots ∧
    (s.walkerHoldCredit c n).rates = s.rates ∧
    (s.walkerHoldCredit c n).runs = s.runs ∧
    (s.walkerHoldCredit c n).stock = s.stock ∧
    (s.walkerHoldCredit c n).bus = s.bus ∧
    (s.walkerHoldCredit c n).share = s.share ∧
    (s.walkerHoldCredit c n).refill = s.refill ∧
    (s.walkerHoldCredit c n).lines = s.lines ∧
    (s.walkerHoldCredit c n).outs = s.outs ∧
    (s.walkerHoldCredit c n).pending = s.pending ∧
    (s.walkerHoldCredit c n).job.memory = s.job.memory ∧
    (s.walkerHoldCredit c n).port.settings = s.port.settings ∧
    (s.walkerHoldCredit c n).port.response = s.port.response ∧
    (s.walkerHoldCredit c n).port.spiOut = s.port.spiOut ∧
    (s.walkerHoldCredit c n).port.snapshot = s.port.snapshot ∧
    (s.walkerHoldCredit c n).port.protection = s.port.protection ∧
    (s.walkerHoldCredit c n).port.mask = s.port.mask := by
  unfold State.walkerHoldCredit; simp

@[simp] theorem State.walkerRunEnded_frame (s : State) (r : EndReason) (n : Nat) :
    (s.walkerRunEnded r n).acct = s.acct ∧
    (s.walkerRunEnded r n).grants = s.grants ∧
    (s.walkerRunEnded r n).slots = s.slots ∧
    (s.walkerRunEnded r n).rates = s.rates ∧
    (s.walkerRunEnded r n).stock = s.stock ∧
    (s.walkerRunEnded r n).bus = s.bus ∧
    (s.walkerRunEnded r n).share = s.share ∧
    (s.walkerRunEnded r n).refill = s.refill ∧
    (s.walkerRunEnded r n).lines = s.lines ∧
    (s.walkerRunEnded r n).outs = s.outs ∧
    (s.walkerRunEnded r n).pending = s.pending ∧
    (s.walkerRunEnded r n).runs.inFlight = s.runs.inFlight ∧
    (s.walkerRunEnded r n).runs.sending = s.runs.sending ∧
    (s.walkerRunEnded r n).runs.sendTimer = s.runs.sendTimer ∧
    (s.walkerRunEnded r n).runs.mechTimer = s.runs.mechTimer ∧
    (s.walkerRunEnded r n).runs.finished = s.runs.finished ∧
    (s.walkerRunEnded r n).runs.endedCount = s.runs.endedCount ∧
    (s.walkerRunEnded r n).job.memory = s.job.memory ∧
    (s.walkerRunEnded r n).port.settings = s.port.settings ∧
    (s.walkerRunEnded r n).port.response = s.port.response ∧
    (s.walkerRunEnded r n).port.spiOut = s.port.spiOut ∧
    (s.walkerRunEnded r n).port.snapshot = s.port.snapshot ∧
    (s.walkerRunEnded r n).port.protection = s.port.protection ∧
    (s.walkerRunEnded r n).port.mask = s.port.mask := by
  unfold State.walkerRunEnded; (repeat' split) <;> simp

@[simp] theorem State.walkerPlaceFree_frame (s : State) :
    s.walkerPlaceFree.acct = s.acct ∧
    s.walkerPlaceFree.grants = s.grants ∧
    s.walkerPlaceFree.slots = s.slots ∧
    s.walkerPlaceFree.rates = s.rates ∧
    s.walkerPlaceFree.stock = s.stock ∧
    s.walkerPlaceFree.bus = s.bus ∧
    s.walkerPlaceFree.share = s.share ∧
    s.walkerPlaceFree.refill = s.refill ∧
    s.walkerPlaceFree.lines = s.lines ∧
    s.walkerPlaceFree.outs = s.outs ∧
    s.walkerPlaceFree.pending = s.pending ∧
    s.walkerPlaceFree.runs.inFlight = s.runs.inFlight ∧
    s.walkerPlaceFree.runs.sending = s.runs.sending ∧
    s.walkerPlaceFree.runs.sendTimer = s.runs.sendTimer ∧
    s.walkerPlaceFree.runs.mechTimer = s.runs.mechTimer ∧
    s.walkerPlaceFree.runs.finished = s.runs.finished ∧
    s.walkerPlaceFree.runs.endedCount = s.runs.endedCount ∧
    s.walkerPlaceFree.job.memory = s.job.memory ∧
    s.walkerPlaceFree.port.settings = s.port.settings ∧
    s.walkerPlaceFree.port.response = s.port.response ∧
    s.walkerPlaceFree.port.spiOut = s.port.spiOut ∧
    s.walkerPlaceFree.port.snapshot = s.port.snapshot ∧
    s.walkerPlaceFree.port.protection = s.port.protection ∧
    s.walkerPlaceFree.port.mask = s.port.mask := by
  unfold State.walkerPlaceFree; split <;> simp

@[simp] theorem State.tellWalker_frame (s : State) (r : Run) (x : EndReason) :
    (s.tellWalker r x).acct = s.acct ∧
    (s.tellWalker r x).grants = s.grants ∧
    (s.tellWalker r x).slots = s.slots ∧
    (s.tellWalker r x).rates = s.rates ∧
    (s.tellWalker r x).stock = s.stock ∧
    (s.tellWalker r x).bus = s.bus ∧
    (s.tellWalker r x).share = s.share ∧
    (s.tellWalker r x).refill = s.refill ∧
    (s.tellWalker r x).lines = s.lines ∧
    (s.tellWalker r x).outs = s.outs ∧
    (s.tellWalker r x).pending = s.pending ∧
    (s.tellWalker r x).runs.inFlight = s.runs.inFlight ∧
    (s.tellWalker r x).runs.sending = s.runs.sending ∧
    (s.tellWalker r x).runs.sendTimer = s.runs.sendTimer ∧
    (s.tellWalker r x).runs.mechTimer = s.runs.mechTimer ∧
    (s.tellWalker r x).runs.finished = s.runs.finished ∧
    (s.tellWalker r x).runs.endedCount = s.runs.endedCount ∧
    (s.tellWalker r x).job.memory = s.job.memory ∧
    (s.tellWalker r x).port.settings = s.port.settings ∧
    (s.tellWalker r x).port.response = s.port.response ∧
    (s.tellWalker r x).port.spiOut = s.port.spiOut ∧
    (s.tellWalker r x).port.snapshot = s.port.snapshot ∧
    (s.tellWalker r x).port.protection = s.port.protection ∧
    (s.tellWalker r x).port.mask = s.port.mask := by
  unfold State.tellWalker; split <;> simp

@[simp] theorem State.runEnd_frame (s : State) (id : Nat) (x : EndReason) :
    (s.runEnd id x).acct = s.acct ∧
    (s.runEnd id x).rates = s.rates ∧
    (s.runEnd id x).stock = s.stock ∧
    (s.runEnd id x).bus = s.bus ∧
    (s.runEnd id x).share = s.share ∧
    (s.runEnd id x).refill = s.refill ∧
    (s.runEnd id x).lines = s.lines ∧
    (s.runEnd id x).outs = s.outs ∧
    (s.runEnd id x).pending = s.pending ∧
    (s.runEnd id x).grants.period = s.grants.period ∧
    (s.runEnd id x).runs.inFlight = s.runs.inFlight ∧
    (s.runEnd id x).runs.sending = s.runs.sending ∧
    (s.runEnd id x).runs.sendTimer = s.runs.sendTimer ∧
    (s.runEnd id x).runs.mechTimer = s.runs.mechTimer ∧
    (s.runEnd id x).job.memory = s.job.memory ∧
    (s.runEnd id x).port.settings = s.port.settings ∧
    (s.runEnd id x).port.response = s.port.response ∧
    (s.runEnd id x).port.spiOut = s.port.spiOut ∧
    (s.runEnd id x).port.snapshot = s.port.snapshot ∧
    (s.runEnd id x).port.protection = s.port.protection ∧
    (s.runEnd id x).port.mask = s.port.mask := by
  unfold State.runEnd
  split <;> simp [RunUnit.addFinished]

@[simp] theorem State.authorisePost_frame (s : State) (r : Run) :
    (s.authorisePost r).grants = s.grants ∧
    (s.authorisePost r).rates = s.rates ∧
    (s.authorisePost r).job = s.job ∧
    (s.authorisePost r).stock = s.stock ∧
    (s.authorisePost r).refill = s.refill ∧
    (s.authorisePost r).lines = s.lines ∧
    (s.authorisePost r).outs = s.outs ∧
    (s.authorisePost r).pending = s.pending ∧
    (s.authorisePost r).runs.queue = s.runs.queue ∧
    (s.authorisePost r).runs.nextId = s.runs.nextId ∧
    (s.authorisePost r).runs.mechTimer = s.runs.mechTimer ∧
    (s.authorisePost r).runs.finished = s.runs.finished ∧
    (s.authorisePost r).runs.endedCount = s.runs.endedCount ∧
    (s.authorisePost r).bus.state = s.bus.state ∧
    (s.authorisePost r).bus.controllerOn = s.bus.controllerOn ∧
    (s.authorisePost r).bus.ignored = s.bus.ignored ∧
    (s.authorisePost r).bus.peers = s.bus.peers ∧
    (s.authorisePost r).share.settleTimer = s.share.settleTimer ∧
    (s.authorisePost r).share.retry = s.share.retry ∧
    (s.authorisePost r).share.lastPledge = s.share.lastPledge ∧
    (s.authorisePost r).share.pledges = s.share.pledges ∧
    (s.authorisePost r).share.outRecord = s.share.outRecord ∧
    (s.authorisePost r).share.unresolved = s.share.unresolved ∧
    (s.authorisePost r).share.writtenOff = s.share.writtenOff ∧
    (s.authorisePost r).port.settings = s.port.settings ∧
    (s.authorisePost r).port.response = s.port.response ∧
    (s.authorisePost r).port.spiOut = s.port.spiOut ∧
    (s.authorisePost r).port.snapshot = s.port.snapshot ∧
    (s.authorisePost r).port.protection = s.port.protection ∧
    (s.authorisePost r).port.mask = s.port.mask := by
  unfold State.authorisePost; simp

@[simp] theorem State.authorise_frame (s : State) (id : Nat) :
    (s.authorise id).rates = s.rates ∧
    (s.authorise id).stock = s.stock ∧
    (s.authorise id).refill = s.refill ∧
    (s.authorise id).lines = s.lines ∧
    (s.authorise id).outs = s.outs ∧
    (s.authorise id).pending = s.pending ∧
    (s.authorise id).grants.period = s.grants.period ∧
    (s.authorise id).job.memory = s.job.memory ∧
    (s.authorise id).bus.state = s.bus.state ∧
    (s.authorise id).bus.controllerOn = s.bus.controllerOn ∧
    (s.authorise id).bus.ignored = s.bus.ignored ∧
    (s.authorise id).bus.peers = s.bus.peers ∧
    (s.authorise id).share.settleTimer = s.share.settleTimer ∧
    (s.authorise id).share.retry = s.share.retry ∧
    (s.authorise id).share.lastPledge = s.share.lastPledge ∧
    (s.authorise id).share.pledges = s.share.pledges ∧
    (s.authorise id).share.outRecord = s.share.outRecord ∧
    (s.authorise id).share.unresolved = s.share.unresolved ∧
    (s.authorise id).share.writtenOff = s.share.writtenOff ∧
    (s.authorise id).port.settings = s.port.settings ∧
    (s.authorise id).port.response = s.port.response ∧
    (s.authorise id).port.spiOut = s.port.spiOut ∧
    (s.authorise id).port.snapshot = s.port.snapshot ∧
    (s.authorise id).port.protection = s.port.protection ∧
    (s.authorise id).port.mask = s.port.mask := by
  unfold State.authorise; (repeat' split) <;> simp

@[simp] theorem State.runStart_frame (s : State) (r : Run) :
    (s.runStart r).rates = s.rates ∧
    (s.runStart r).stock = s.stock ∧
    (s.runStart r).refill = s.refill ∧
    (s.runStart r).lines = s.lines ∧
    (s.runStart r).outs = s.outs ∧
    (s.runStart r).pending = s.pending ∧
    (s.runStart r).grants.period = s.grants.period ∧
    (s.runStart r).job.memory = s.job.memory ∧
    (s.runStart r).bus.state = s.bus.state ∧
    (s.runStart r).bus.controllerOn = s.bus.controllerOn ∧
    (s.runStart r).bus.ignored = s.bus.ignored ∧
    (s.runStart r).bus.peers = s.bus.peers ∧
    (s.runStart r).share.settleTimer = s.share.settleTimer ∧
    (s.runStart r).share.retry = s.share.retry ∧
    (s.runStart r).share.lastPledge = s.share.lastPledge ∧
    (s.runStart r).share.pledges = s.share.pledges ∧
    (s.runStart r).share.outRecord = s.share.outRecord ∧
    (s.runStart r).share.unresolved = s.share.unresolved ∧
    (s.runStart r).share.writtenOff = s.share.writtenOff ∧
    (s.runStart r).port.settings = s.port.settings ∧
    (s.runStart r).port.response = s.port.response ∧
    (s.runStart r).port.spiOut = s.port.spiOut ∧
    (s.runStart r).port.snapshot = s.port.snapshot ∧
    (s.runStart r).port.protection = s.port.protection ∧
    (s.runStart r).port.mask = s.port.mask := by
  unfold State.runStart; dsimp only; (repeat' split) <;> simp

@[simp] theorem State.startLoop_frame (l : List Nat) (n : Nat) (s : State) :
    (State.startLoop l n s).rates = s.rates ∧
    (State.startLoop l n s).stock = s.stock ∧
    (State.startLoop l n s).refill = s.refill ∧
    (State.startLoop l n s).lines = s.lines ∧
    (State.startLoop l n s).outs = s.outs ∧
    (State.startLoop l n s).pending = s.pending ∧
    (State.startLoop l n s).grants.period = s.grants.period ∧
    (State.startLoop l n s).job.memory = s.job.memory ∧
    (State.startLoop l n s).bus.state = s.bus.state ∧
    (State.startLoop l n s).bus.controllerOn = s.bus.controllerOn ∧
    (State.startLoop l n s).bus.ignored = s.bus.ignored ∧
    (State.startLoop l n s).bus.peers = s.bus.peers ∧
    (State.startLoop l n s).share.settleTimer = s.share.settleTimer ∧
    (State.startLoop l n s).share.retry = s.share.retry ∧
    (State.startLoop l n s).share.lastPledge = s.share.lastPledge ∧
    (State.startLoop l n s).share.pledges = s.share.pledges ∧
    (State.startLoop l n s).share.outRecord = s.share.outRecord ∧
    (State.startLoop l n s).share.unresolved = s.share.unresolved ∧
    (State.startLoop l n s).share.writtenOff = s.share.writtenOff ∧
    (State.startLoop l n s).port.settings = s.port.settings ∧
    (State.startLoop l n s).port.response = s.port.response ∧
    (State.startLoop l n s).port.spiOut = s.port.spiOut ∧
    (State.startLoop l n s).port.snapshot = s.port.snapshot ∧
    (State.startLoop l n s).port.protection = s.port.protection ∧
    (State.startLoop l n s).port.mask = s.port.mask := by
  induction n generalizing s with
  | zero => simp [State.startLoop]
  | succ n ih =>
    unfold State.startLoop
    cases s.startable with
    | none => simp
    | some r =>
      dsimp only
      split
      · simp
      · simpa using ih (s.runStart r)

@[simp] theorem State.considerStart_frame (s : State) :
    s.considerStart.rates = s.rates ∧
    s.considerStart.stock = s.stock ∧
    s.considerStart.refill = s.refill ∧
    s.considerStart.lines = s.lines ∧
    s.considerStart.outs = s.outs ∧
    s.considerStart.pending = s.pending ∧
    s.considerStart.grants.period = s.grants.period ∧
    s.considerStart.job.memory = s.job.memory ∧
    s.considerStart.bus.state = s.bus.state ∧
    s.considerStart.bus.controllerOn = s.bus.controllerOn ∧
    s.considerStart.bus.ignored = s.bus.ignored ∧
    s.considerStart.bus.peers = s.bus.peers ∧
    s.considerStart.share.settleTimer = s.share.settleTimer ∧
    s.considerStart.share.retry = s.share.retry ∧
    s.considerStart.share.lastPledge = s.share.lastPledge ∧
    s.considerStart.share.pledges = s.share.pledges ∧
    s.considerStart.share.outRecord = s.share.outRecord ∧
    s.considerStart.share.unresolved = s.share.unresolved ∧
    s.considerStart.share.writtenOff = s.share.writtenOff ∧
    s.considerStart.port.settings = s.port.settings ∧
    s.considerStart.port.response = s.port.response ∧
    s.considerStart.port.spiOut = s.port.spiOut ∧
    s.considerStart.port.snapshot = s.port.snapshot ∧
    s.considerStart.port.protection = s.port.protection ∧
    s.considerStart.port.mask = s.port.mask := by
  unfold State.considerStart; simp

@[simp] theorem State.afterMode_frame (s : State) (m : Mode) :
    (s.afterMode m).rates = s.rates ∧
    (s.afterMode m).stock = s.stock ∧
    (s.afterMode m).refill = s.refill ∧
    (s.afterMode m).lines = s.lines ∧
    (s.afterMode m).outs = s.outs ∧
    (s.afterMode m).pending = s.pending ∧
    (s.afterMode m).grants.period = s.grants.period ∧
    (s.afterMode m).job.memory = s.job.memory ∧
    (s.afterMode m).bus.state = s.bus.state ∧
    (s.afterMode m).bus.controllerOn = s.bus.controllerOn ∧
    (s.afterMode m).bus.ignored = s.bus.ignored ∧
    (s.afterMode m).bus.peers = s.bus.peers ∧
    (s.afterMode m).share.settleTimer = s.share.settleTimer ∧
    (s.afterMode m).share.retry = s.share.retry ∧
    (s.afterMode m).share.lastPledge = s.share.lastPledge ∧
    (s.afterMode m).share.pledges = s.share.pledges ∧
    (s.afterMode m).share.outRecord = s.share.outRecord ∧
    (s.afterMode m).share.unresolved = s.share.unresolved ∧
    (s.afterMode m).share.writtenOff = s.share.writtenOff ∧
    (s.afterMode m).port.settings = s.port.settings ∧
    (s.afterMode m).port.response = s.port.response ∧
    (s.afterMode m).port.spiOut = s.port.spiOut ∧
    (s.afterMode m).port.snapshot = s.port.snapshot ∧
    (s.afterMode m).port.protection = s.port.protection ∧
    (s.afterMode m).port.mask = s.port.mask := by
  unfold State.afterMode; (repeat' split) <;> simp

@[simp] theorem State.endRequest_frame (s : State) (id : Nat) (x : EndReason) :
    (s.endRequest id x).acct = s.acct ∧
    (s.endRequest id x).rates = s.rates ∧
    (s.endRequest id x).stock = s.stock ∧
    (s.endRequest id x).bus = s.bus ∧
    (s.endRequest id x).share = s.share ∧
    (s.endRequest id x).refill = s.refill ∧
    (s.endRequest id x).lines = s.lines ∧
    (s.endRequest id x).outs = s.outs ∧
    (s.endRequest id x).pending = s.pending ∧
    (s.endRequest id x).grants.period = s.grants.period ∧
    (s.endRequest id x).job.memory = s.job.memory ∧
    (s.endRequest id x).runs.inFlight = s.runs.inFlight ∧
    (s.endRequest id x).runs.sending = s.runs.sending ∧
    (s.endRequest id x).runs.sendTimer = s.runs.sendTimer ∧
    (s.endRequest id x).runs.mechTimer = s.runs.mechTimer ∧
    (s.endRequest id x).port.settings = s.port.settings ∧
    (s.endRequest id x).port.response = s.port.response ∧
    (s.endRequest id x).port.spiOut = s.port.spiOut ∧
    (s.endRequest id x).port.snapshot = s.port.snapshot ∧
    (s.endRequest id x).port.protection = s.port.protection ∧
    (s.endRequest id x).port.mask = s.port.mask := by
  unfold State.endRequest; (repeat' split) <;> simp

@[simp] theorem State.abandonRuns_frame (ids : List Nat) (s : State) :
    (State.abandonRuns ids s).rates = s.rates ∧
    (State.abandonRuns ids s).stock = s.stock ∧
    (State.abandonRuns ids s).refill = s.refill ∧
    (State.abandonRuns ids s).lines = s.lines ∧
    (State.abandonRuns ids s).outs = s.outs ∧
    (State.abandonRuns ids s).pending = s.pending ∧
    (State.abandonRuns ids s).grants.period = s.grants.period ∧
    (State.abandonRuns ids s).job.memory = s.job.memory ∧
    (State.abandonRuns ids s).bus.state = s.bus.state ∧
    (State.abandonRuns ids s).bus.controllerOn = s.bus.controllerOn ∧
    (State.abandonRuns ids s).bus.ignored = s.bus.ignored ∧
    (State.abandonRuns ids s).bus.peers = s.bus.peers ∧
    (State.abandonRuns ids s).share.settleTimer = s.share.settleTimer ∧
    (State.abandonRuns ids s).share.retry = s.share.retry ∧
    (State.abandonRuns ids s).share.lastPledge = s.share.lastPledge ∧
    (State.abandonRuns ids s).share.pledges = s.share.pledges ∧
    (State.abandonRuns ids s).share.outRecord = s.share.outRecord ∧
    (State.abandonRuns ids s).share.unresolved = s.share.unresolved ∧
    (State.abandonRuns ids s).share.writtenOff = s.share.writtenOff ∧
    (State.abandonRuns ids s).port.settings = s.port.settings ∧
    (State.abandonRuns ids s).port.response = s.port.response ∧
    (State.abandonRuns ids s).port.spiOut = s.port.spiOut ∧
    (State.abandonRuns ids s).port.snapshot = s.port.snapshot ∧
    (State.abandonRuns ids s).port.protection = s.port.protection ∧
    (State.abandonRuns ids s).port.mask = s.port.mask := by
  induction ids generalizing s with
  | nil => simp [State.abandonRuns]
  | cons id rest ih =>
    simpa [State.abandonRuns] using ih (State.startLoop rest
      ((s.endRequest id .abandoned).runs.queue.length + 2) (s.endRequest id .abandoned))

@[simp] theorem State.abandonSlot_frame (s : State) (i : Nat) :
    (s.abandonSlot i).rates = s.rates ∧
    (s.abandonSlot i).stock = s.stock ∧
    (s.abandonSlot i).refill = s.refill ∧
    (s.abandonSlot i).lines = s.lines ∧
    (s.abandonSlot i).outs = s.outs ∧
    (s.abandonSlot i).pending = s.pending ∧
    (s.abandonSlot i).grants.period = s.grants.period ∧
    (s.abandonSlot i).job.memory = s.job.memory ∧
    (s.abandonSlot i).bus.state = s.bus.state ∧
    (s.abandonSlot i).bus.controllerOn = s.bus.controllerOn ∧
    (s.abandonSlot i).bus.ignored = s.bus.ignored ∧
    (s.abandonSlot i).bus.peers = s.bus.peers ∧
    (s.abandonSlot i).share.settleTimer = s.share.settleTimer ∧
    (s.abandonSlot i).share.retry = s.share.retry ∧
    (s.abandonSlot i).share.lastPledge = s.share.lastPledge ∧
    (s.abandonSlot i).share.pledges = s.share.pledges ∧
    (s.abandonSlot i).share.outRecord = s.share.outRecord ∧
    (s.abandonSlot i).share.unresolved = s.share.unresolved ∧
    (s.abandonSlot i).share.writtenOff = s.share.writtenOff ∧
    (s.abandonSlot i).port.settings = s.port.settings ∧
    (s.abandonSlot i).port.response = s.port.response ∧
    (s.abandonSlot i).port.spiOut = s.port.spiOut ∧
    (s.abandonSlot i).port.snapshot = s.port.snapshot ∧
    (s.abandonSlot i).port.protection = s.port.protection ∧
    (s.abandonSlot i).port.mask = s.port.mask := by
  unfold State.abandonSlot; dsimp only; (repeat' split) <;> simp

@[simp] theorem State.clearInFlight_frame (s : State) :
    s.clearInFlight.acct = s.acct ∧
    s.clearInFlight.grants = s.grants ∧
    s.clearInFlight.slots = s.slots ∧
    s.clearInFlight.rates = s.rates ∧
    s.clearInFlight.job = s.job ∧
    s.clearInFlight.stock = s.stock ∧
    s.clearInFlight.bus = s.bus ∧
    s.clearInFlight.share = s.share ∧
    s.clearInFlight.refill = s.refill ∧
    s.clearInFlight.port = s.port ∧
    s.clearInFlight.lines = s.lines ∧
    s.clearInFlight.outs = s.outs ∧
    s.clearInFlight.pending = s.pending ∧
    s.clearInFlight.runs.queue = s.runs.queue ∧
    s.clearInFlight.runs.nextId = s.runs.nextId ∧
    s.clearInFlight.runs.sending = s.runs.sending ∧
    s.clearInFlight.runs.sendTimer = s.runs.sendTimer ∧
    s.clearInFlight.runs.finished = s.runs.finished ∧
    s.clearInFlight.runs.endedCount = s.runs.endedCount := by
  unfold State.clearInFlight; simp

@[simp] theorem State.afterFailure_frame (s : State) (id : Nat) :
    (s.afterFailure id).acct = s.acct ∧
    (s.afterFailure id).rates = s.rates ∧
    (s.afterFailure id).stock = s.stock ∧
    (s.afterFailure id).bus = s.bus ∧
    (s.afterFailure id).share = s.share ∧
    (s.afterFailure id).refill = s.refill ∧
    (s.afterFailure id).lines = s.lines ∧
    (s.afterFailure id).outs = s.outs ∧
    (s.afterFailure id).pending = s.pending ∧
    (s.afterFailure id).grants.period = s.grants.period ∧
    (s.afterFailure id).job.memory = s.job.memory ∧
    (s.afterFailure id).port.settings = s.port.settings ∧
    (s.afterFailure id).port.response = s.port.response ∧
    (s.afterFailure id).port.spiOut = s.port.spiOut ∧
    (s.afterFailure id).port.snapshot = s.port.snapshot ∧
    (s.afterFailure id).port.protection = s.port.protection ∧
    (s.afterFailure id).port.mask = s.port.mask := by
  unfold State.afterFailure; (repeat' split) <;> simp

@[simp] theorem State.afterDone_frame (s : State) (id : Nat) :
    (s.afterDone id).rates = s.rates ∧
    (s.afterDone id).stock = s.stock ∧
    (s.afterDone id).refill = s.refill ∧
    (s.afterDone id).lines = s.lines ∧
    (s.afterDone id).outs = s.outs ∧
    (s.afterDone id).pending = s.pending ∧
    (s.afterDone id).grants.period = s.grants.period ∧
    (s.afterDone id).job.memory = s.job.memory ∧
    (s.afterDone id).bus.state = s.bus.state ∧
    (s.afterDone id).bus.controllerOn = s.bus.controllerOn ∧
    (s.afterDone id).bus.ignored = s.bus.ignored ∧
    (s.afterDone id).bus.peers = s.bus.peers ∧
    (s.afterDone id).share.settleTimer = s.share.settleTimer ∧
    (s.afterDone id).share.retry = s.share.retry ∧
    (s.afterDone id).share.lastPledge = s.share.lastPledge ∧
    (s.afterDone id).share.pledges = s.share.pledges ∧
    (s.afterDone id).share.outRecord = s.share.outRecord ∧
    (s.afterDone id).share.unresolved = s.share.unresolved ∧
    (s.afterDone id).share.writtenOff = s.share.writtenOff ∧
    (s.afterDone id).port.settings = s.port.settings ∧
    (s.afterDone id).port.response = s.port.response ∧
    (s.afterDone id).port.spiOut = s.port.spiOut ∧
    (s.afterDone id).port.snapshot = s.port.snapshot ∧
    (s.afterDone id).port.protection = s.port.protection ∧
    (s.afterDone id).port.mask = s.port.mask := by
  unfold State.afterDone; (repeat' split) <;> simp

@[simp] theorem State.imprintDone_frame (s : State) (f : InFlight) :
    (s.imprintDone f).rates = s.rates ∧
    (s.imprintDone f).stock = s.stock ∧
    (s.imprintDone f).refill = s.refill ∧
    (s.imprintDone f).lines = s.lines ∧
    (s.imprintDone f).outs = s.outs ∧
    (s.imprintDone f).pending = s.pending ∧
    (s.imprintDone f).grants.period = s.grants.period ∧
    (s.imprintDone f).job.memory = s.job.memory ∧
    (s.imprintDone f).bus.state = s.bus.state ∧
    (s.imprintDone f).bus.controllerOn = s.bus.controllerOn ∧
    (s.imprintDone f).bus.ignored = s.bus.ignored ∧
    (s.imprintDone f).bus.peers = s.bus.peers ∧
    (s.imprintDone f).share.settleTimer = s.share.settleTimer ∧
    (s.imprintDone f).share.retry = s.share.retry ∧
    (s.imprintDone f).share.lastPledge = s.share.lastPledge ∧
    (s.imprintDone f).share.pledges = s.share.pledges ∧
    (s.imprintDone f).share.outRecord = s.share.outRecord ∧
    (s.imprintDone f).share.unresolved = s.share.unresolved ∧
    (s.imprintDone f).share.writtenOff = s.share.writtenOff ∧
    (s.imprintDone f).port.settings = s.port.settings ∧
    (s.imprintDone f).port.response = s.port.response ∧
    (s.imprintDone f).port.spiOut = s.port.spiOut ∧
    (s.imprintDone f).port.snapshot = s.port.snapshot ∧
    (s.imprintDone f).port.protection = s.port.protection ∧
    (s.imprintDone f).port.mask = s.port.mask := by
  unfold State.imprintDone; simp

@[simp] theorem State.refundSlot_frame (s : State) (id v : Nat) :
    (s.refundSlot id v).acct = s.acct ∧
    (s.refundSlot id v).grants = s.grants ∧
    (s.refundSlot id v).rates = s.rates ∧
    (s.refundSlot id v).runs = s.runs ∧
    (s.refundSlot id v).job = s.job ∧
    (s.refundSlot id v).stock = s.stock ∧
    (s.refundSlot id v).bus = s.bus ∧
    (s.refundSlot id v).share = s.share ∧
    (s.refundSlot id v).refill = s.refill ∧
    (s.refundSlot id v).port = s.port ∧
    (s.refundSlot id v).lines = s.lines ∧
    (s.refundSlot id v).outs = s.outs ∧
    (s.refundSlot id v).pending = s.pending := by
  unfold State.refundSlot; split <;> simp

@[simp] theorem State.imprintFailedClean_frame (s : State) (f : InFlight) :
    (s.imprintFailedClean f).rates = s.rates ∧
    (s.imprintFailedClean f).stock = s.stock ∧
    (s.imprintFailedClean f).refill = s.refill ∧
    (s.imprintFailedClean f).lines = s.lines ∧
    (s.imprintFailedClean f).outs = s.outs ∧
    (s.imprintFailedClean f).pending = s.pending ∧
    (s.imprintFailedClean f).grants.period = s.grants.period ∧
    (s.imprintFailedClean f).job.memory = s.job.memory ∧
    (s.imprintFailedClean f).bus.state = s.bus.state ∧
    (s.imprintFailedClean f).bus.controllerOn = s.bus.controllerOn ∧
    (s.imprintFailedClean f).bus.ignored = s.bus.ignored ∧
    (s.imprintFailedClean f).bus.peers = s.bus.peers ∧
    (s.imprintFailedClean f).share.settleTimer = s.share.settleTimer ∧
    (s.imprintFailedClean f).share.retry = s.share.retry ∧
    (s.imprintFailedClean f).share.lastPledge = s.share.lastPledge ∧
    (s.imprintFailedClean f).share.pledges = s.share.pledges ∧
    (s.imprintFailedClean f).share.outRecord = s.share.outRecord ∧
    (s.imprintFailedClean f).share.unresolved = s.share.unresolved ∧
    (s.imprintFailedClean f).share.writtenOff = s.share.writtenOff ∧
    (s.imprintFailedClean f).port.settings = s.port.settings ∧
    (s.imprintFailedClean f).port.response = s.port.response ∧
    (s.imprintFailedClean f).port.spiOut = s.port.spiOut ∧
    (s.imprintFailedClean f).port.snapshot = s.port.snapshot ∧
    (s.imprintFailedClean f).port.protection = s.port.protection ∧
    (s.imprintFailedClean f).port.mask = s.port.mask := by
  unfold State.imprintFailedClean; simp

@[simp] theorem State.imprintUncertain_frame (s : State) (f : InFlight) :
    (s.imprintUncertain f).rates = s.rates ∧
    (s.imprintUncertain f).stock = s.stock ∧
    (s.imprintUncertain f).refill = s.refill ∧
    (s.imprintUncertain f).lines = s.lines ∧
    (s.imprintUncertain f).outs = s.outs ∧
    (s.imprintUncertain f).pending = s.pending ∧
    (s.imprintUncertain f).grants.period = s.grants.period ∧
    (s.imprintUncertain f).job.memory = s.job.memory ∧
    (s.imprintUncertain f).bus.state = s.bus.state ∧
    (s.imprintUncertain f).bus.controllerOn = s.bus.controllerOn ∧
    (s.imprintUncertain f).bus.ignored = s.bus.ignored ∧
    (s.imprintUncertain f).bus.peers = s.bus.peers ∧
    (s.imprintUncertain f).share.settleTimer = s.share.settleTimer ∧
    (s.imprintUncertain f).share.retry = s.share.retry ∧
    (s.imprintUncertain f).share.lastPledge = s.share.lastPledge ∧
    (s.imprintUncertain f).share.pledges = s.share.pledges ∧
    (s.imprintUncertain f).share.outRecord = s.share.outRecord ∧
    (s.imprintUncertain f).share.unresolved = s.share.unresolved ∧
    (s.imprintUncertain f).share.writtenOff = s.share.writtenOff ∧
    (s.imprintUncertain f).port.settings = s.port.settings ∧
    (s.imprintUncertain f).port.response = s.port.response ∧
    (s.imprintUncertain f).port.spiOut = s.port.spiOut ∧
    (s.imprintUncertain f).port.snapshot = s.port.snapshot ∧
    (s.imprintUncertain f).port.protection = s.port.protection ∧
    (s.imprintUncertain f).port.mask = s.port.mask := by
  unfold State.imprintUncertain; simp

@[simp] theorem State.dropPledge_frame (s : State) (x w : Nat) :
    (s.dropPledge x w).acct = s.acct ∧
    (s.dropPledge x w).grants = s.grants ∧
    (s.dropPledge x w).slots = s.slots ∧
    (s.dropPledge x w).rates = s.rates ∧
    (s.dropPledge x w).runs = s.runs ∧
    (s.dropPledge x w).job = s.job ∧
    (s.dropPledge x w).stock = s.stock ∧
    (s.dropPledge x w).bus = s.bus ∧
    (s.dropPledge x w).refill = s.refill ∧
    (s.dropPledge x w).port = s.port ∧
    (s.dropPledge x w).lines = s.lines ∧
    (s.dropPledge x w).outs = s.outs ∧
    (s.dropPledge x w).pending = s.pending ∧
    (s.dropPledge x w).share.want = s.share.want ∧
    (s.dropPledge x w).share.wantWindow = s.share.wantWindow ∧
    (s.dropPledge x w).share.settleTimer = s.share.settleTimer ∧
    (s.dropPledge x w).share.retry = s.share.retry ∧
    (s.dropPledge x w).share.request = s.share.request ∧
    (s.dropPledge x w).share.lastWant = s.share.lastWant ∧
    (s.dropPledge x w).share.lastPledge = s.share.lastPledge ∧
    (s.dropPledge x w).share.outRecord = s.share.outRecord ∧
    (s.dropPledge x w).share.unresolved = s.share.unresolved ∧
    (s.dropPledge x w).share.writtenOff = s.share.writtenOff := by
  unfold State.dropPledge; simp

@[simp] theorem State.makePledge_frame (s : State) (x w a : Nat) :
    (s.makePledge x w a).grants = s.grants ∧
    (s.makePledge x w a).slots = s.slots ∧
    (s.makePledge x w a).rates = s.rates ∧
    (s.makePledge x w a).runs = s.runs ∧
    (s.makePledge x w a).job = s.job ∧
    (s.makePledge x w a).stock = s.stock ∧
    (s.makePledge x w a).refill = s.refill ∧
    (s.makePledge x w a).lines = s.lines ∧
    (s.makePledge x w a).outs = s.outs ∧
    (s.makePledge x w a).pending = s.pending ∧
    (s.makePledge x w a).bus.state = s.bus.state ∧
    (s.makePledge x w a).bus.controllerOn = s.bus.controllerOn ∧
    (s.makePledge x w a).bus.ignored = s.bus.ignored ∧
    (s.makePledge x w a).bus.peers = s.bus.peers ∧
    (s.makePledge x w a).port.settings = s.port.settings ∧
    (s.makePledge x w a).port.response = s.port.response ∧
    (s.makePledge x w a).port.spiOut = s.port.spiOut ∧
    (s.makePledge x w a).port.snapshot = s.port.snapshot ∧
    (s.makePledge x w a).port.protection = s.port.protection ∧
    (s.makePledge x w a).port.mask = s.port.mask := by
  unfold State.makePledge; split <;> simp

@[simp] theorem State.wantHeard_frame (s : State) (x w a : Nat) :
    (s.wantHeard x w a).grants = s.grants ∧
    (s.wantHeard x w a).slots = s.slots ∧
    (s.wantHeard x w a).rates = s.rates ∧
    (s.wantHeard x w a).runs = s.runs ∧
    (s.wantHeard x w a).job = s.job ∧
    (s.wantHeard x w a).stock = s.stock ∧
    (s.wantHeard x w a).refill = s.refill ∧
    (s.wantHeard x w a).lines = s.lines ∧
    (s.wantHeard x w a).outs = s.outs ∧
    (s.wantHeard x w a).pending = s.pending ∧
    (s.wantHeard x w a).bus.state = s.bus.state ∧
    (s.wantHeard x w a).bus.controllerOn = s.bus.controllerOn ∧
    (s.wantHeard x w a).bus.ignored = s.bus.ignored ∧
    (s.wantHeard x w a).bus.peers = s.bus.peers ∧
    (s.wantHeard x w a).port.settings = s.port.settings ∧
    (s.wantHeard x w a).port.response = s.port.response ∧
    (s.wantHeard x w a).port.spiOut = s.port.spiOut ∧
    (s.wantHeard x w a).port.snapshot = s.port.snapshot ∧
    (s.wantHeard x w a).port.protection = s.port.protection ∧
    (s.wantHeard x w a).port.mask = s.port.mask := by
  unfold State.wantHeard; (repeat' split) <;> simp

@[simp] theorem State.backupExpired_frame (s : State) (x w : Nat) :
    (s.backupExpired x w).grants = s.grants ∧
    (s.backupExpired x w).slots = s.slots ∧
    (s.backupExpired x w).rates = s.rates ∧
    (s.backupExpired x w).runs = s.runs ∧
    (s.backupExpired x w).job = s.job ∧
    (s.backupExpired x w).stock = s.stock ∧
    (s.backupExpired x w).refill = s.refill ∧
    (s.backupExpired x w).lines = s.lines ∧
    (s.backupExpired x w).outs = s.outs ∧
    (s.backupExpired x w).pending = s.pending ∧
    (s.backupExpired x w).bus.state = s.bus.state ∧
    (s.backupExpired x w).bus.controllerOn = s.bus.controllerOn ∧
    (s.backupExpired x w).bus.ignored = s.bus.ignored ∧
    (s.backupExpired x w).bus.peers = s.bus.peers ∧
    (s.backupExpired x w).port.settings = s.port.settings ∧
    (s.backupExpired x w).port.response = s.port.response ∧
    (s.backupExpired x w).port.spiOut = s.port.spiOut ∧
    (s.backupExpired x w).port.snapshot = s.port.snapshot ∧
    (s.backupExpired x w).port.protection = s.port.protection ∧
    (s.backupExpired x w).port.mask = s.port.mask := by
  unfold State.backupExpired; (repeat' split) <;> simp

@[simp] theorem State.returnPledge_frame (s : State) (x w : Nat) (o : Offer) :
    (s.returnPledge x w o).grants = s.grants ∧
    (s.returnPledge x w o).slots = s.slots ∧
    (s.returnPledge x w o).rates = s.rates ∧
    (s.returnPledge x w o).runs = s.runs ∧
    (s.returnPledge x w o).job = s.job ∧
    (s.returnPledge x w o).stock = s.stock ∧
    (s.returnPledge x w o).refill = s.refill ∧
    (s.returnPledge x w o).lines = s.lines ∧
    (s.returnPledge x w o).outs = s.outs ∧
    (s.returnPledge x w o).pending = s.pending ∧
    (s.returnPledge x w o).bus.state = s.bus.state ∧
    (s.returnPledge x w o).bus.controllerOn = s.bus.controllerOn ∧
    (s.returnPledge x w o).bus.ignored = s.bus.ignored ∧
    (s.returnPledge x w o).bus.peers = s.bus.peers ∧
    (s.returnPledge x w o).port.settings = s.port.settings ∧
    (s.returnPledge x w o).port.response = s.port.response ∧
    (s.returnPledge x w o).port.spiOut = s.port.spiOut ∧
    (s.returnPledge x w o).port.snapshot = s.port.snapshot ∧
    (s.returnPledge x w o).port.protection = s.port.protection ∧
    (s.returnPledge x w o).port.mask = s.port.mask := by
  unfold State.returnPledge; simp

@[simp] theorem State.answerTake_frame (s : State) (x w p : Nat) :
    (s.answerTake x w p).grants = s.grants ∧
    (s.answerTake x w p).slots = s.slots ∧
    (s.answerTake x w p).rates = s.rates ∧
    (s.answerTake x w p).runs = s.runs ∧
    (s.answerTake x w p).job = s.job ∧
    (s.answerTake x w p).stock = s.stock ∧
    (s.answerTake x w p).refill = s.refill ∧
    (s.answerTake x w p).lines = s.lines ∧
    (s.answerTake x w p).outs = s.outs ∧
    (s.answerTake x w p).pending = s.pending ∧
    (s.answerTake x w p).bus.state = s.bus.state ∧
    (s.answerTake x w p).bus.controllerOn = s.bus.controllerOn ∧
    (s.answerTake x w p).bus.standingTimer = s.bus.standingTimer ∧
    (s.answerTake x w p).bus.announcedSurplus = s.bus.announcedSurplus ∧
    (s.answerTake x w p).bus.announcedFlags = s.bus.announcedFlags ∧
    (s.answerTake x w p).bus.ignored = s.bus.ignored ∧
    (s.answerTake x w p).bus.peers = s.bus.peers ∧
    (s.answerTake x w p).port.settings = s.port.settings ∧
    (s.answerTake x w p).port.response = s.port.response ∧
    (s.answerTake x w p).port.spiOut = s.port.spiOut ∧
    (s.answerTake x w p).port.snapshot = s.port.snapshot ∧
    (s.answerTake x w p).port.protection = s.port.protection ∧
    (s.answerTake x w p).port.mask = s.port.mask := by
  unfold State.answerTake; (repeat' split) <;> simp

@[simp] theorem State.waived_frame (s : State) (x w p : Nat) :
    (s.waived x w p).grants = s.grants ∧
    (s.waived x w p).slots = s.slots ∧
    (s.waived x w p).rates = s.rates ∧
    (s.waived x w p).runs = s.runs ∧
    (s.waived x w p).job = s.job ∧
    (s.waived x w p).stock = s.stock ∧
    (s.waived x w p).refill = s.refill ∧
    (s.waived x w p).lines = s.lines ∧
    (s.waived x w p).outs = s.outs ∧
    (s.waived x w p).pending = s.pending ∧
    (s.waived x w p).bus.state = s.bus.state ∧
    (s.waived x w p).bus.controllerOn = s.bus.controllerOn ∧
    (s.waived x w p).bus.ignored = s.bus.ignored ∧
    (s.waived x w p).bus.peers = s.bus.peers ∧
    (s.waived x w p).port.settings = s.port.settings ∧
    (s.waived x w p).port.response = s.port.response ∧
    (s.waived x w p).port.spiOut = s.port.spiOut ∧
    (s.waived x w p).port.snapshot = s.port.snapshot ∧
    (s.waived x w p).port.protection = s.port.protection ∧
    (s.waived x w p).port.mask = s.port.mask := by
  unfold State.waived; split <;> simp

@[simp] theorem State.acknowledged_frame (s : State) (x w p : Nat) :
    (s.acknowledged x w p).acct = s.acct ∧
    (s.acknowledged x w p).grants = s.grants ∧
    (s.acknowledged x w p).slots = s.slots ∧
    (s.acknowledged x w p).rates = s.rates ∧
    (s.acknowledged x w p).runs = s.runs ∧
    (s.acknowledged x w p).job = s.job ∧
    (s.acknowledged x w p).stock = s.stock ∧
    (s.acknowledged x w p).bus = s.bus ∧
    (s.acknowledged x w p).refill = s.refill ∧
    (s.acknowledged x w p).port = s.port ∧
    (s.acknowledged x w p).lines = s.lines ∧
    (s.acknowledged x w p).outs = s.outs ∧
    (s.acknowledged x w p).pending = s.pending := by
  unfold State.acknowledged; simp

@[simp] theorem State.waive_frame (s : State) (x w p : Nat) :
    (s.waive x w p).acct = s.acct ∧
    (s.waive x w p).grants = s.grants ∧
    (s.waive x w p).slots = s.slots ∧
    (s.waive x w p).rates = s.rates ∧
    (s.waive x w p).runs = s.runs ∧
    (s.waive x w p).job = s.job ∧
    (s.waive x w p).stock = s.stock ∧
    (s.waive x w p).share = s.share ∧
    (s.waive x w p).refill = s.refill ∧
    (s.waive x w p).lines = s.lines ∧
    (s.waive x w p).outs = s.outs ∧
    (s.waive x w p).pending = s.pending ∧
    (s.waive x w p).bus.state = s.bus.state ∧
    (s.waive x w p).bus.controllerOn = s.bus.controllerOn ∧
    (s.waive x w p).bus.standingTimer = s.bus.standingTimer ∧
    (s.waive x w p).bus.announcedSurplus = s.bus.announcedSurplus ∧
    (s.waive x w p).bus.announcedFlags = s.bus.announcedFlags ∧
    (s.waive x w p).bus.ignored = s.bus.ignored ∧
    (s.waive x w p).bus.peers = s.bus.peers ∧
    (s.waive x w p).port.settings = s.port.settings ∧
    (s.waive x w p).port.response = s.port.response ∧
    (s.waive x w p).port.spiOut = s.port.spiOut ∧
    (s.waive x w p).port.snapshot = s.port.snapshot ∧
    (s.waive x w p).port.protection = s.port.protection ∧
    (s.waive x w p).port.mask = s.port.mask := by
  unfold State.waive; simp

@[simp] theorem State.takePledge_frame (s : State) (x w p a : Nat) :
    (s.takePledge x w p a).grants = s.grants ∧
    (s.takePledge x w p a).slots = s.slots ∧
    (s.takePledge x w p a).rates = s.rates ∧
    (s.takePledge x w p a).runs = s.runs ∧
    (s.takePledge x w p a).job = s.job ∧
    (s.takePledge x w p a).stock = s.stock ∧
    (s.takePledge x w p a).refill = s.refill ∧
    (s.takePledge x w p a).lines = s.lines ∧
    (s.takePledge x w p a).outs = s.outs ∧
    (s.takePledge x w p a).pending = s.pending ∧
    (s.takePledge x w p a).bus.state = s.bus.state ∧
    (s.takePledge x w p a).bus.controllerOn = s.bus.controllerOn ∧
    (s.takePledge x w p a).bus.ignored = s.bus.ignored ∧
    (s.takePledge x w p a).bus.peers = s.bus.peers ∧
    (s.takePledge x w p a).port.settings = s.port.settings ∧
    (s.takePledge x w p a).port.response = s.port.response ∧
    (s.takePledge x w p a).port.spiOut = s.port.spiOut ∧
    (s.takePledge x w p a).port.snapshot = s.port.snapshot ∧
    (s.takePledge x w p a).port.protection = s.port.protection ∧
    (s.takePledge x w p a).port.mask = s.port.mask := by
  unfold State.takePledge; simp

@[simp] theorem State.pledgeForUs_frame (s : State) (x w p a : Nat) :
    (s.pledgeForUs x w p a).grants = s.grants ∧
    (s.pledgeForUs x w p a).slots = s.slots ∧
    (s.pledgeForUs x w p a).rates = s.rates ∧
    (s.pledgeForUs x w p a).runs = s.runs ∧
    (s.pledgeForUs x w p a).job = s.job ∧
    (s.pledgeForUs x w p a).stock = s.stock ∧
    (s.pledgeForUs x w p a).refill = s.refill ∧
    (s.pledgeForUs x w p a).lines = s.lines ∧
    (s.pledgeForUs x w p a).outs = s.outs ∧
    (s.pledgeForUs x w p a).pending = s.pending ∧
    (s.pledgeForUs x w p a).bus.state = s.bus.state ∧
    (s.pledgeForUs x w p a).bus.controllerOn = s.bus.controllerOn ∧
    (s.pledgeForUs x w p a).bus.ignored = s.bus.ignored ∧
    (s.pledgeForUs x w p a).bus.peers = s.bus.peers ∧
    (s.pledgeForUs x w p a).port.settings = s.port.settings ∧
    (s.pledgeForUs x w p a).port.response = s.port.response ∧
    (s.pledgeForUs x w p a).port.spiOut = s.port.spiOut ∧
    (s.pledgeForUs x w p a).port.snapshot = s.port.snapshot ∧
    (s.pledgeForUs x w p a).port.protection = s.port.protection ∧
    (s.pledgeForUs x w p a).port.mask = s.port.mask := by
  unfold State.pledgeForUs; (repeat' split) <;> simp

@[simp] theorem State.pledgeForOther_frame (s : State) (x w : Nat) :
    (s.pledgeForOther x w).acct = s.acct ∧
    (s.pledgeForOther x w).grants = s.grants ∧
    (s.pledgeForOther x w).slots = s.slots ∧
    (s.pledgeForOther x w).rates = s.rates ∧
    (s.pledgeForOther x w).runs = s.runs ∧
    (s.pledgeForOther x w).job = s.job ∧
    (s.pledgeForOther x w).stock = s.stock ∧
    (s.pledgeForOther x w).bus = s.bus ∧
    (s.pledgeForOther x w).refill = s.refill ∧
    (s.pledgeForOther x w).port = s.port ∧
    (s.pledgeForOther x w).lines = s.lines ∧
    (s.pledgeForOther x w).outs = s.outs ∧
    (s.pledgeForOther x w).pending = s.pending := by
  unfold State.pledgeForOther; simp

@[simp] theorem State.dropUnresolved_frame (s : State) (x w p : Nat) :
    (s.dropUnresolved x w p).acct = s.acct ∧
    (s.dropUnresolved x w p).grants = s.grants ∧
    (s.dropUnresolved x w p).slots = s.slots ∧
    (s.dropUnresolved x w p).rates = s.rates ∧
    (s.dropUnresolved x w p).runs = s.runs ∧
    (s.dropUnresolved x w p).job = s.job ∧
    (s.dropUnresolved x w p).stock = s.stock ∧
    (s.dropUnresolved x w p).bus = s.bus ∧
    (s.dropUnresolved x w p).refill = s.refill ∧
    (s.dropUnresolved x w p).port = s.port ∧
    (s.dropUnresolved x w p).lines = s.lines ∧
    (s.dropUnresolved x w p).outs = s.outs ∧
    (s.dropUnresolved x w p).pending = s.pending ∧
    (s.dropUnresolved x w p).share.want = s.share.want ∧
    (s.dropUnresolved x w p).share.wantWindow = s.share.wantWindow ∧
    (s.dropUnresolved x w p).share.settleTimer = s.share.settleTimer ∧
    (s.dropUnresolved x w p).share.retry = s.share.retry ∧
    (s.dropUnresolved x w p).share.request = s.share.request ∧
    (s.dropUnresolved x w p).share.lastWant = s.share.lastWant ∧
    (s.dropUnresolved x w p).share.lastPledge = s.share.lastPledge ∧
    (s.dropUnresolved x w p).share.pledges = s.share.pledges ∧
    (s.dropUnresolved x w p).share.outRecord = s.share.outRecord ∧
    (s.dropUnresolved x w p).share.writtenOff = s.share.writtenOff := by
  unfold State.dropUnresolved; simp

@[simp] theorem State.acknowledge_frame (s : State) (x w p : Nat) :
    (s.acknowledge x w p).acct = s.acct ∧
    (s.acknowledge x w p).grants = s.grants ∧
    (s.acknowledge x w p).slots = s.slots ∧
    (s.acknowledge x w p).rates = s.rates ∧
    (s.acknowledge x w p).runs = s.runs ∧
    (s.acknowledge x w p).job = s.job ∧
    (s.acknowledge x w p).stock = s.stock ∧
    (s.acknowledge x w p).share = s.share ∧
    (s.acknowledge x w p).refill = s.refill ∧
    (s.acknowledge x w p).lines = s.lines ∧
    (s.acknowledge x w p).outs = s.outs ∧
    (s.acknowledge x w p).pending = s.pending ∧
    (s.acknowledge x w p).bus.state = s.bus.state ∧
    (s.acknowledge x w p).bus.controllerOn = s.bus.controllerOn ∧
    (s.acknowledge x w p).bus.standingTimer = s.bus.standingTimer ∧
    (s.acknowledge x w p).bus.announcedSurplus = s.bus.announcedSurplus ∧
    (s.acknowledge x w p).bus.announcedFlags = s.bus.announcedFlags ∧
    (s.acknowledge x w p).bus.ignored = s.bus.ignored ∧
    (s.acknowledge x w p).bus.peers = s.bus.peers ∧
    (s.acknowledge x w p).port.settings = s.port.settings ∧
    (s.acknowledge x w p).port.response = s.port.response ∧
    (s.acknowledge x w p).port.spiOut = s.port.spiOut ∧
    (s.acknowledge x w p).port.snapshot = s.port.snapshot ∧
    (s.acknowledge x w p).port.protection = s.port.protection ∧
    (s.acknowledge x w p).port.mask = s.port.mask := by
  unfold State.acknowledge; simp

@[simp] theorem State.settlementHeard_frame (s : State) (x w p : Nat) :
    (s.settlementHeard x w p).grants = s.grants ∧
    (s.settlementHeard x w p).slots = s.slots ∧
    (s.settlementHeard x w p).rates = s.rates ∧
    (s.settlementHeard x w p).runs = s.runs ∧
    (s.settlementHeard x w p).job = s.job ∧
    (s.settlementHeard x w p).stock = s.stock ∧
    (s.settlementHeard x w p).refill = s.refill ∧
    (s.settlementHeard x w p).lines = s.lines ∧
    (s.settlementHeard x w p).outs = s.outs ∧
    (s.settlementHeard x w p).pending = s.pending ∧
    (s.settlementHeard x w p).bus.state = s.bus.state ∧
    (s.settlementHeard x w p).bus.controllerOn = s.bus.controllerOn ∧
    (s.settlementHeard x w p).bus.ignored = s.bus.ignored ∧
    (s.settlementHeard x w p).bus.peers = s.bus.peers ∧
    (s.settlementHeard x w p).port.settings = s.port.settings ∧
    (s.settlementHeard x w p).port.response = s.port.response ∧
    (s.settlementHeard x w p).port.spiOut = s.port.spiOut ∧
    (s.settlementHeard x w p).port.snapshot = s.port.snapshot ∧
    (s.settlementHeard x w p).port.protection = s.port.protection ∧
    (s.settlementHeard x w p).port.mask = s.port.mask := by
  unfold State.settlementHeard; (repeat' split) <;> simp

@[simp] theorem State.voidHeard_frame (s : State) (x w p : Nat) :
    (s.voidHeard x w p).grants = s.grants ∧
    (s.voidHeard x w p).slots = s.slots ∧
    (s.voidHeard x w p).rates = s.rates ∧
    (s.voidHeard x w p).runs = s.runs ∧
    (s.voidHeard x w p).job = s.job ∧
    (s.voidHeard x w p).stock = s.stock ∧
    (s.voidHeard x w p).refill = s.refill ∧
    (s.voidHeard x w p).lines = s.lines ∧
    (s.voidHeard x w p).outs = s.outs ∧
    (s.voidHeard x w p).pending = s.pending ∧
    (s.voidHeard x w p).bus.state = s.bus.state ∧
    (s.voidHeard x w p).bus.controllerOn = s.bus.controllerOn ∧
    (s.voidHeard x w p).bus.ignored = s.bus.ignored ∧
    (s.voidHeard x w p).bus.peers = s.bus.peers ∧
    (s.voidHeard x w p).port.settings = s.port.settings ∧
    (s.voidHeard x w p).port.response = s.port.response ∧
    (s.voidHeard x w p).port.spiOut = s.port.spiOut ∧
    (s.voidHeard x w p).port.snapshot = s.port.snapshot ∧
    (s.voidHeard x w p).port.protection = s.port.protection ∧
    (s.voidHeard x w p).port.mask = s.port.mask := by
  unfold State.voidHeard; (repeat' split) <;> simp

@[simp] theorem State.sendAsk_frame (s : State) (x w p : Nat) :
    (s.sendAsk x w p).acct = s.acct ∧
    (s.sendAsk x w p).grants = s.grants ∧
    (s.sendAsk x w p).slots = s.slots ∧
    (s.sendAsk x w p).rates = s.rates ∧
    (s.sendAsk x w p).runs = s.runs ∧
    (s.sendAsk x w p).job = s.job ∧
    (s.sendAsk x w p).stock = s.stock ∧
    (s.sendAsk x w p).share = s.share ∧
    (s.sendAsk x w p).refill = s.refill ∧
    (s.sendAsk x w p).lines = s.lines ∧
    (s.sendAsk x w p).outs = s.outs ∧
    (s.sendAsk x w p).pending = s.pending ∧
    (s.sendAsk x w p).bus.state = s.bus.state ∧
    (s.sendAsk x w p).bus.controllerOn = s.bus.controllerOn ∧
    (s.sendAsk x w p).bus.standingTimer = s.bus.standingTimer ∧
    (s.sendAsk x w p).bus.announcedSurplus = s.bus.announcedSurplus ∧
    (s.sendAsk x w p).bus.announcedFlags = s.bus.announcedFlags ∧
    (s.sendAsk x w p).bus.ignored = s.bus.ignored ∧
    (s.sendAsk x w p).bus.peers = s.bus.peers ∧
    (s.sendAsk x w p).port.settings = s.port.settings ∧
    (s.sendAsk x w p).port.response = s.port.response ∧
    (s.sendAsk x w p).port.spiOut = s.port.spiOut ∧
    (s.sendAsk x w p).port.snapshot = s.port.snapshot ∧
    (s.sendAsk x w p).port.protection = s.port.protection ∧
    (s.sendAsk x w p).port.mask = s.port.mask := by
  unfold State.sendAsk; simp

@[simp] theorem State.wantToUnresolved_frame (s : State) (w : Want) (t : Taken) :
    (s.wantToUnresolved w t).acct = s.acct ∧
    (s.wantToUnresolved w t).grants = s.grants ∧
    (s.wantToUnresolved w t).slots = s.slots ∧
    (s.wantToUnresolved w t).rates = s.rates ∧
    (s.wantToUnresolved w t).runs = s.runs ∧
    (s.wantToUnresolved w t).job = s.job ∧
    (s.wantToUnresolved w t).stock = s.stock ∧
    (s.wantToUnresolved w t).bus = s.bus ∧
    (s.wantToUnresolved w t).refill = s.refill ∧
    (s.wantToUnresolved w t).lines = s.lines ∧
    (s.wantToUnresolved w t).outs = s.outs ∧
    (s.wantToUnresolved w t).pending = s.pending ∧
    (s.wantToUnresolved w t).share.retry = s.share.retry ∧
    (s.wantToUnresolved w t).share.request = s.share.request ∧
    (s.wantToUnresolved w t).share.lastWant = s.share.lastWant ∧
    (s.wantToUnresolved w t).share.lastPledge = s.share.lastPledge ∧
    (s.wantToUnresolved w t).share.pledges = s.share.pledges ∧
    (s.wantToUnresolved w t).share.outRecord = s.share.outRecord ∧
    (s.wantToUnresolved w t).share.writtenOff = s.share.writtenOff ∧
    (s.wantToUnresolved w t).port.settings = s.port.settings ∧
    (s.wantToUnresolved w t).port.response = s.port.response ∧
    (s.wantToUnresolved w t).port.spiOut = s.port.spiOut ∧
    (s.wantToUnresolved w t).port.snapshot = s.port.snapshot ∧
    (s.wantToUnresolved w t).port.protection = s.port.protection ∧
    (s.wantToUnresolved w t).port.mask = s.port.mask := by
  unfold State.wantToUnresolved; simp

@[simp] theorem State.settleExpired_frame (s : State) :
    s.settleExpired.acct = s.acct ∧
    s.settleExpired.grants = s.grants ∧
    s.settleExpired.slots = s.slots ∧
    s.settleExpired.rates = s.rates ∧
    s.settleExpired.runs = s.runs ∧
    s.settleExpired.job = s.job ∧
    s.settleExpired.stock = s.stock ∧
    s.settleExpired.refill = s.refill ∧
    s.settleExpired.lines = s.lines ∧
    s.settleExpired.outs = s.outs ∧
    s.settleExpired.pending = s.pending ∧
    s.settleExpired.bus.state = s.bus.state ∧
    s.settleExpired.bus.controllerOn = s.bus.controllerOn ∧
    s.settleExpired.bus.ignored = s.bus.ignored ∧
    s.settleExpired.bus.peers = s.bus.peers ∧
    s.settleExpired.port.settings = s.port.settings ∧
    s.settleExpired.port.response = s.port.response ∧
    s.settleExpired.port.spiOut = s.port.spiOut ∧
    s.settleExpired.port.snapshot = s.port.snapshot ∧
    s.settleExpired.port.protection = s.port.protection ∧
    s.settleExpired.port.mask = s.port.mask := by
  unfold State.settleExpired; (repeat' split) <;> simp

@[simp] theorem State.askUnresolved_frame (s : State) (x : Nat) :
    (s.askUnresolved x).acct = s.acct ∧
    (s.askUnresolved x).grants = s.grants ∧
    (s.askUnresolved x).slots = s.slots ∧
    (s.askUnresolved x).rates = s.rates ∧
    (s.askUnresolved x).runs = s.runs ∧
    (s.askUnresolved x).job = s.job ∧
    (s.askUnresolved x).stock = s.stock ∧
    (s.askUnresolved x).share = s.share ∧
    (s.askUnresolved x).refill = s.refill ∧
    (s.askUnresolved x).lines = s.lines ∧
    (s.askUnresolved x).outs = s.outs ∧
    (s.askUnresolved x).pending = s.pending ∧
    (s.askUnresolved x).bus.state = s.bus.state ∧
    (s.askUnresolved x).bus.controllerOn = s.bus.controllerOn ∧
    (s.askUnresolved x).bus.standingTimer = s.bus.standingTimer ∧
    (s.askUnresolved x).bus.announcedSurplus = s.bus.announcedSurplus ∧
    (s.askUnresolved x).bus.announcedFlags = s.bus.announcedFlags ∧
    (s.askUnresolved x).bus.ignored = s.bus.ignored ∧
    (s.askUnresolved x).bus.peers = s.bus.peers ∧
    (s.askUnresolved x).port.settings = s.port.settings ∧
    (s.askUnresolved x).port.response = s.port.response ∧
    (s.askUnresolved x).port.spiOut = s.port.spiOut ∧
    (s.askUnresolved x).port.snapshot = s.port.snapshot ∧
    (s.askUnresolved x).port.protection = s.port.protection ∧
    (s.askUnresolved x).port.mask = s.port.mask := by
  unfold State.askUnresolved
  generalize s.share.unresolved = l
  induction l generalizing s with
  | nil => simp
  | cons u l ih =>
    rw [List.foldl_cons]
    split
    · simpa using ih (s.sendAsk x u.wantNo u.pledgeNo)
    · exact ih s

@[simp] theorem State.wantWindowExpiry_frame (s : State) :
    s.wantWindowExpiry.acct = s.acct ∧
    s.wantWindowExpiry.grants = s.grants ∧
    s.wantWindowExpiry.slots = s.slots ∧
    s.wantWindowExpiry.rates = s.rates ∧
    s.wantWindowExpiry.runs = s.runs ∧
    s.wantWindowExpiry.job = s.job ∧
    s.wantWindowExpiry.stock = s.stock ∧
    s.wantWindowExpiry.refill = s.refill ∧
    s.wantWindowExpiry.lines = s.lines ∧
    s.wantWindowExpiry.outs = s.outs ∧
    s.wantWindowExpiry.pending = s.pending ∧
    s.wantWindowExpiry.bus.state = s.bus.state ∧
    s.wantWindowExpiry.bus.controllerOn = s.bus.controllerOn ∧
    s.wantWindowExpiry.bus.ignored = s.bus.ignored ∧
    s.wantWindowExpiry.bus.peers = s.bus.peers ∧
    s.wantWindowExpiry.port.settings = s.port.settings ∧
    s.wantWindowExpiry.port.response = s.port.response ∧
    s.wantWindowExpiry.port.spiOut = s.port.spiOut ∧
    s.wantWindowExpiry.port.snapshot = s.port.snapshot ∧
    s.wantWindowExpiry.port.protection = s.port.protection ∧
    s.wantWindowExpiry.port.mask = s.port.mask := by
  unfold State.wantWindowExpiry; (repeat' split) <;> simp

@[simp] theorem State.pledgeExpiry_frame (s : State) (x w : Nat) :
    (s.pledgeExpiry x w).grants = s.grants ∧
    (s.pledgeExpiry x w).slots = s.slots ∧
    (s.pledgeExpiry x w).rates = s.rates ∧
    (s.pledgeExpiry x w).runs = s.runs ∧
    (s.pledgeExpiry x w).job = s.job ∧
    (s.pledgeExpiry x w).stock = s.stock ∧
    (s.pledgeExpiry x w).refill = s.refill ∧
    (s.pledgeExpiry x w).lines = s.lines ∧
    (s.pledgeExpiry x w).outs = s.outs ∧
    (s.pledgeExpiry x w).pending = s.pending ∧
    (s.pledgeExpiry x w).bus.state = s.bus.state ∧
    (s.pledgeExpiry x w).bus.controllerOn = s.bus.controllerOn ∧
    (s.pledgeExpiry x w).bus.ignored = s.bus.ignored ∧
    (s.pledgeExpiry x w).bus.peers = s.bus.peers ∧
    (s.pledgeExpiry x w).port.settings = s.port.settings ∧
    (s.pledgeExpiry x w).port.response = s.port.response ∧
    (s.pledgeExpiry x w).port.spiOut = s.port.spiOut ∧
    (s.pledgeExpiry x w).port.snapshot = s.port.snapshot ∧
    (s.pledgeExpiry x w).port.protection = s.port.protection ∧
    (s.pledgeExpiry x w).port.mask = s.port.mask := by
  unfold State.pledgeExpiry; split <;> simp

@[simp] theorem State.retryExpiry_frame (s : State) :
    s.retryExpiry.acct = s.acct ∧
    s.retryExpiry.grants = s.grants ∧
    s.retryExpiry.slots = s.slots ∧
    s.retryExpiry.rates = s.rates ∧
    s.retryExpiry.runs = s.runs ∧
    s.retryExpiry.job = s.job ∧
    s.retryExpiry.stock = s.stock ∧
    s.retryExpiry.refill = s.refill ∧
    s.retryExpiry.lines = s.lines ∧
    s.retryExpiry.outs = s.outs ∧
    s.retryExpiry.pending = s.pending ∧
    s.retryExpiry.bus.state = s.bus.state ∧
    s.retryExpiry.bus.controllerOn = s.bus.controllerOn ∧
    s.retryExpiry.bus.ignored = s.bus.ignored ∧
    s.retryExpiry.bus.peers = s.bus.peers ∧
    s.retryExpiry.port.settings = s.port.settings ∧
    s.retryExpiry.port.response = s.port.response ∧
    s.retryExpiry.port.spiOut = s.port.spiOut ∧
    s.retryExpiry.port.snapshot = s.port.snapshot ∧
    s.retryExpiry.port.protection = s.port.protection ∧
    s.retryExpiry.port.mask = s.port.mask := by
  unfold State.retryExpiry; split <;> simp

@[simp] theorem State.discard_frame (s : State) (t : Transfer) :
    (s.discard t).grants = s.grants ∧
    (s.discard t).slots = s.slots ∧
    (s.discard t).rates = s.rates ∧
    (s.discard t).runs = s.runs ∧
    (s.discard t).job = s.job ∧
    (s.discard t).stock = s.stock ∧
    (s.discard t).bus = s.bus ∧
    (s.discard t).refill = s.refill ∧
    (s.discard t).lines = s.lines ∧
    (s.discard t).outs = s.outs ∧
    (s.discard t).pending = s.pending ∧
    (s.discard t).port.settings = s.port.settings ∧
    (s.discard t).port.response = s.port.response ∧
    (s.discard t).port.spiOut = s.port.spiOut ∧
    (s.discard t).port.snapshot = s.port.snapshot ∧
    (s.discard t).port.protection = s.port.protection ∧
    (s.discard t).port.mask = s.port.mask := by
  unfold State.discard; simp

@[simp] theorem State.renewReel_frame (s : State) (r : Reel) :
    (s.renewReel r).acct = s.acct ∧
    (s.renewReel r).grants = s.grants ∧
    (s.renewReel r).slots = s.slots ∧
    (s.renewReel r).rates = s.rates ∧
    (s.renewReel r).runs = s.runs ∧
    (s.renewReel r).job = s.job ∧
    (s.renewReel r).bus = s.bus ∧
    (s.renewReel r).share = s.share ∧
    (s.renewReel r).refill = s.refill ∧
    (s.renewReel r).port = s.port ∧
    (s.renewReel r).lines = s.lines ∧
    (s.renewReel r).outs = s.outs ∧
    (s.renewReel r).pending = s.pending := by
  unfold State.renewReel; simp

@[simp] theorem State.keepReel_frame (s : State) (r : Reel) :
    (s.keepReel r).acct = s.acct ∧
    (s.keepReel r).grants = s.grants ∧
    (s.keepReel r).slots = s.slots ∧
    (s.keepReel r).rates = s.rates ∧
    (s.keepReel r).runs = s.runs ∧
    (s.keepReel r).job = s.job ∧
    (s.keepReel r).bus = s.bus ∧
    (s.keepReel r).share = s.share ∧
    (s.keepReel r).refill = s.refill ∧
    (s.keepReel r).port = s.port ∧
    (s.keepReel r).lines = s.lines ∧
    (s.keepReel r).outs = s.outs ∧
    (s.keepReel r).pending = s.pending := by
  unfold State.keepReel; simp

@[simp] theorem State.dropReel_frame (s : State) (id : Nat) :
    (s.dropReel id).acct = s.acct ∧
    (s.dropReel id).grants = s.grants ∧
    (s.dropReel id).slots = s.slots ∧
    (s.dropReel id).rates = s.rates ∧
    (s.dropReel id).runs = s.runs ∧
    (s.dropReel id).job = s.job ∧
    (s.dropReel id).bus = s.bus ∧
    (s.dropReel id).share = s.share ∧
    (s.dropReel id).refill = s.refill ∧
    (s.dropReel id).port = s.port ∧
    (s.dropReel id).lines = s.lines ∧
    (s.dropReel id).outs = s.outs ∧
    (s.dropReel id).pending = s.pending := by
  unfold State.dropReel; simp

@[simp] theorem State.dropNote_frame (s : State) (id : Nat) :
    (s.dropNote id).acct = s.acct ∧
    (s.dropNote id).grants = s.grants ∧
    (s.dropNote id).slots = s.slots ∧
    (s.dropNote id).rates = s.rates ∧
    (s.dropNote id).runs = s.runs ∧
    (s.dropNote id).job = s.job ∧
    (s.dropNote id).bus = s.bus ∧
    (s.dropNote id).share = s.share ∧
    (s.dropNote id).refill = s.refill ∧
    (s.dropNote id).port = s.port ∧
    (s.dropNote id).lines = s.lines ∧
    (s.dropNote id).outs = s.outs ∧
    (s.dropNote id).pending = s.pending := by
  unfold State.dropNote; simp

@[simp] theorem State.newReel_frame (s : State) (f : Feeder) (r : Reel) :
    (s.newReel f r).acct = s.acct ∧
    (s.newReel f r).grants = s.grants ∧
    (s.newReel f r).slots = s.slots ∧
    (s.newReel f r).rates = s.rates ∧
    (s.newReel f r).runs = s.runs ∧
    (s.newReel f r).job = s.job ∧
    (s.newReel f r).bus = s.bus ∧
    (s.newReel f r).share = s.share ∧
    (s.newReel f r).refill = s.refill ∧
    (s.newReel f r).port = s.port ∧
    (s.newReel f r).lines = s.lines ∧
    (s.newReel f r).outs = s.outs ∧
    (s.newReel f r).pending = s.pending := by
  unfold State.newReel; simp

@[simp] theorem State.tellEmpty_frame (s : State) (r : Reel) :
    (s.tellEmpty r).acct = s.acct ∧
    (s.tellEmpty r).grants = s.grants ∧
    (s.tellEmpty r).slots = s.slots ∧
    (s.tellEmpty r).rates = s.rates ∧
    (s.tellEmpty r).runs = s.runs ∧
    (s.tellEmpty r).job = s.job ∧
    (s.tellEmpty r).stock = s.stock ∧
    (s.tellEmpty r).share = s.share ∧
    (s.tellEmpty r).refill = s.refill ∧
    (s.tellEmpty r).lines = s.lines ∧
    (s.tellEmpty r).outs = s.outs ∧
    (s.tellEmpty r).pending = s.pending ∧
    (s.tellEmpty r).bus.state = s.bus.state ∧
    (s.tellEmpty r).bus.controllerOn = s.bus.controllerOn ∧
    (s.tellEmpty r).bus.standingTimer = s.bus.standingTimer ∧
    (s.tellEmpty r).bus.announcedSurplus = s.bus.announcedSurplus ∧
    (s.tellEmpty r).bus.announcedFlags = s.bus.announcedFlags ∧
    (s.tellEmpty r).bus.ignored = s.bus.ignored ∧
    (s.tellEmpty r).bus.peers = s.bus.peers ∧
    (s.tellEmpty r).port.settings = s.port.settings ∧
    (s.tellEmpty r).port.response = s.port.response ∧
    (s.tellEmpty r).port.spiOut = s.port.spiOut ∧
    (s.tellEmpty r).port.snapshot = s.port.snapshot ∧
    (s.tellEmpty r).port.protection = s.port.protection ∧
    (s.tellEmpty r).port.mask = s.port.mask := by
  unfold State.tellEmpty; simp

@[simp] theorem State.remount_frame (s : State) (f : Feeder) (r : Reel) (d c : Nat) :
    (s.remount f r d c).acct = s.acct ∧
    (s.remount f r d c).grants = s.grants ∧
    (s.remount f r d c).slots = s.slots ∧
    (s.remount f r d c).rates = s.rates ∧
    (s.remount f r d c).runs = s.runs ∧
    (s.remount f r d c).job = s.job ∧
    (s.remount f r d c).share = s.share ∧
    (s.remount f r d c).refill = s.refill ∧
    (s.remount f r d c).lines = s.lines ∧
    (s.remount f r d c).outs = s.outs ∧
    (s.remount f r d c).pending = s.pending ∧
    (s.remount f r d c).bus.state = s.bus.state ∧
    (s.remount f r d c).bus.controllerOn = s.bus.controllerOn ∧
    (s.remount f r d c).bus.standingTimer = s.bus.standingTimer ∧
    (s.remount f r d c).bus.announcedSurplus = s.bus.announcedSurplus ∧
    (s.remount f r d c).bus.announcedFlags = s.bus.announcedFlags ∧
    (s.remount f r d c).bus.ignored = s.bus.ignored ∧
    (s.remount f r d c).bus.peers = s.bus.peers ∧
    (s.remount f r d c).port.settings = s.port.settings ∧
    (s.remount f r d c).port.response = s.port.response ∧
    (s.remount f r d c).port.spiOut = s.port.spiOut ∧
    (s.remount f r d c).port.snapshot = s.port.snapshot ∧
    (s.remount f r d c).port.protection = s.port.protection ∧
    (s.remount f r d c).port.mask = s.port.mask := by
  unfold State.remount; simp

@[simp] theorem State.mountFromNote_frame (s : State) (f : Feeder) (n : ReleasedNote) (d c : Nat) :
    (s.mountFromNote f n d c).acct = s.acct ∧
    (s.mountFromNote f n d c).grants = s.grants ∧
    (s.mountFromNote f n d c).slots = s.slots ∧
    (s.mountFromNote f n d c).rates = s.rates ∧
    (s.mountFromNote f n d c).runs = s.runs ∧
    (s.mountFromNote f n d c).job = s.job ∧
    (s.mountFromNote f n d c).share = s.share ∧
    (s.mountFromNote f n d c).refill = s.refill ∧
    (s.mountFromNote f n d c).lines = s.lines ∧
    (s.mountFromNote f n d c).outs = s.outs ∧
    (s.mountFromNote f n d c).pending = s.pending ∧
    (s.mountFromNote f n d c).bus.state = s.bus.state ∧
    (s.mountFromNote f n d c).bus.controllerOn = s.bus.controllerOn ∧
    (s.mountFromNote f n d c).bus.standingTimer = s.bus.standingTimer ∧
    (s.mountFromNote f n d c).bus.announcedSurplus = s.bus.announcedSurplus ∧
    (s.mountFromNote f n d c).bus.announcedFlags = s.bus.announcedFlags ∧
    (s.mountFromNote f n d c).bus.ignored = s.bus.ignored ∧
    (s.mountFromNote f n d c).bus.peers = s.bus.peers ∧
    (s.mountFromNote f n d c).port.settings = s.port.settings ∧
    (s.mountFromNote f n d c).port.response = s.port.response ∧
    (s.mountFromNote f n d c).port.spiOut = s.port.spiOut ∧
    (s.mountFromNote f n d c).port.snapshot = s.port.snapshot ∧
    (s.mountFromNote f n d c).port.protection = s.port.protection ∧
    (s.mountFromNote f n d c).port.mask = s.port.mask := by
  unfold State.mountFromNote; simp

@[simp] theorem State.mountAsking_frame (s : State) (f : Feeder) (id d c : Nat) :
    (s.mountAsking f id d c).acct = s.acct ∧
    (s.mountAsking f id d c).grants = s.grants ∧
    (s.mountAsking f id d c).slots = s.slots ∧
    (s.mountAsking f id d c).rates = s.rates ∧
    (s.mountAsking f id d c).runs = s.runs ∧
    (s.mountAsking f id d c).job = s.job ∧
    (s.mountAsking f id d c).share = s.share ∧
    (s.mountAsking f id d c).refill = s.refill ∧
    (s.mountAsking f id d c).lines = s.lines ∧
    (s.mountAsking f id d c).outs = s.outs ∧
    (s.mountAsking f id d c).pending = s.pending ∧
    (s.mountAsking f id d c).bus.state = s.bus.state ∧
    (s.mountAsking f id d c).bus.controllerOn = s.bus.controllerOn ∧
    (s.mountAsking f id d c).bus.standingTimer = s.bus.standingTimer ∧
    (s.mountAsking f id d c).bus.announcedSurplus = s.bus.announcedSurplus ∧
    (s.mountAsking f id d c).bus.announcedFlags = s.bus.announcedFlags ∧
    (s.mountAsking f id d c).bus.ignored = s.bus.ignored ∧
    (s.mountAsking f id d c).bus.peers = s.bus.peers ∧
    (s.mountAsking f id d c).port.settings = s.port.settings ∧
    (s.mountAsking f id d c).port.response = s.port.response ∧
    (s.mountAsking f id d c).port.spiOut = s.port.spiOut ∧
    (s.mountAsking f id d c).port.snapshot = s.port.snapshot ∧
    (s.mountAsking f id d c).port.protection = s.port.protection ∧
    (s.mountAsking f id d c).port.mask = s.port.mask := by
  unfold State.mountAsking; simp

@[simp] theorem State.conflict_frame (s : State) (r : Reel) :
    (s.conflict r).acct = s.acct ∧
    (s.conflict r).grants = s.grants ∧
    (s.conflict r).slots = s.slots ∧
    (s.conflict r).rates = s.rates ∧
    (s.conflict r).runs = s.runs ∧
    (s.conflict r).job = s.job ∧
    (s.conflict r).bus = s.bus ∧
    (s.conflict r).share = s.share ∧
    (s.conflict r).refill = s.refill ∧
    (s.conflict r).lines = s.lines ∧
    (s.conflict r).outs = s.outs ∧
    (s.conflict r).pending = s.pending ∧
    (s.conflict r).port.settings = s.port.settings ∧
    (s.conflict r).port.response = s.port.response ∧
    (s.conflict r).port.spiOut = s.port.spiOut ∧
    (s.conflict r).port.snapshot = s.port.snapshot ∧
    (s.conflict r).port.protection = s.port.protection ∧
    (s.conflict r).port.mask = s.port.mask := by
  unfold State.conflict; split <;> simp

@[simp] theorem State.askConflict_frame (s : State) (r : Reel) :
    (s.askConflict r).acct = s.acct ∧
    (s.askConflict r).grants = s.grants ∧
    (s.askConflict r).slots = s.slots ∧
    (s.askConflict r).rates = s.rates ∧
    (s.askConflict r).runs = s.runs ∧
    (s.askConflict r).job = s.job ∧
    (s.askConflict r).share = s.share ∧
    (s.askConflict r).refill = s.refill ∧
    (s.askConflict r).lines = s.lines ∧
    (s.askConflict r).outs = s.outs ∧
    (s.askConflict r).pending = s.pending ∧
    (s.askConflict r).bus.state = s.bus.state ∧
    (s.askConflict r).bus.controllerOn = s.bus.controllerOn ∧
    (s.askConflict r).bus.standingTimer = s.bus.standingTimer ∧
    (s.askConflict r).bus.announcedSurplus = s.bus.announcedSurplus ∧
    (s.askConflict r).bus.announcedFlags = s.bus.announcedFlags ∧
    (s.askConflict r).bus.ignored = s.bus.ignored ∧
    (s.askConflict r).bus.peers = s.bus.peers ∧
    (s.askConflict r).port.settings = s.port.settings ∧
    (s.askConflict r).port.response = s.port.response ∧
    (s.askConflict r).port.spiOut = s.port.spiOut ∧
    (s.askConflict r).port.snapshot = s.port.snapshot ∧
    (s.askConflict r).port.protection = s.port.protection ∧
    (s.askConflict r).port.mask = s.port.mask := by
  unfold State.askConflict; simp

@[simp] theorem State.adopt_frame (s : State) (r : Reel) (n d : Nat) :
    (s.adopt r n d).acct = s.acct ∧
    (s.adopt r n d).grants = s.grants ∧
    (s.adopt r n d).slots = s.slots ∧
    (s.adopt r n d).rates = s.rates ∧
    (s.adopt r n d).runs = s.runs ∧
    (s.adopt r n d).job = s.job ∧
    (s.adopt r n d).share = s.share ∧
    (s.adopt r n d).refill = s.refill ∧
    (s.adopt r n d).lines = s.lines ∧
    (s.adopt r n d).outs = s.outs ∧
    (s.adopt r n d).pending = s.pending ∧
    (s.adopt r n d).bus.state = s.bus.state ∧
    (s.adopt r n d).bus.controllerOn = s.bus.controllerOn ∧
    (s.adopt r n d).bus.standingTimer = s.bus.standingTimer ∧
    (s.adopt r n d).bus.announcedSurplus = s.bus.announcedSurplus ∧
    (s.adopt r n d).bus.announcedFlags = s.bus.announcedFlags ∧
    (s.adopt r n d).bus.ignored = s.bus.ignored ∧
    (s.adopt r n d).bus.peers = s.bus.peers ∧
    (s.adopt r n d).port.settings = s.port.settings ∧
    (s.adopt r n d).port.response = s.port.response ∧
    (s.adopt r n d).port.spiOut = s.port.spiOut ∧
    (s.adopt r n d).port.snapshot = s.port.snapshot ∧
    (s.adopt r n d).port.protection = s.port.protection ∧
    (s.adopt r n d).port.mask = s.port.mask := by
  unfold State.adopt; dsimp only; (repeat' split) <;> simp

@[simp] theorem State.askExpired_frame (s : State) (r : Reel) :
    (s.askExpired r).acct = s.acct ∧
    (s.askExpired r).grants = s.grants ∧
    (s.askExpired r).slots = s.slots ∧
    (s.askExpired r).rates = s.rates ∧
    (s.askExpired r).runs = s.runs ∧
    (s.askExpired r).job = s.job ∧
    (s.askExpired r).share = s.share ∧
    (s.askExpired r).refill = s.refill ∧
    (s.askExpired r).lines = s.lines ∧
    (s.askExpired r).outs = s.outs ∧
    (s.askExpired r).pending = s.pending ∧
    (s.askExpired r).bus.state = s.bus.state ∧
    (s.askExpired r).bus.controllerOn = s.bus.controllerOn ∧
    (s.askExpired r).bus.standingTimer = s.bus.standingTimer ∧
    (s.askExpired r).bus.announcedSurplus = s.bus.announcedSurplus ∧
    (s.askExpired r).bus.announcedFlags = s.bus.announcedFlags ∧
    (s.askExpired r).bus.ignored = s.bus.ignored ∧
    (s.askExpired r).bus.peers = s.bus.peers ∧
    (s.askExpired r).port.settings = s.port.settings ∧
    (s.askExpired r).port.response = s.port.response ∧
    (s.askExpired r).port.spiOut = s.port.spiOut ∧
    (s.askExpired r).port.snapshot = s.port.snapshot ∧
    (s.askExpired r).port.protection = s.port.protection ∧
    (s.askExpired r).port.mask = s.port.mask := by
  unfold State.askExpired; simp

@[simp] theorem State.claimHeard_frame (s : State) (id : Nat) :
    (s.claimHeard id).acct = s.acct ∧
    (s.claimHeard id).grants = s.grants ∧
    (s.claimHeard id).slots = s.slots ∧
    (s.claimHeard id).rates = s.rates ∧
    (s.claimHeard id).runs = s.runs ∧
    (s.claimHeard id).job = s.job ∧
    (s.claimHeard id).share = s.share ∧
    (s.claimHeard id).refill = s.refill ∧
    (s.claimHeard id).lines = s.lines ∧
    (s.claimHeard id).outs = s.outs ∧
    (s.claimHeard id).pending = s.pending ∧
    (s.claimHeard id).bus.state = s.bus.state ∧
    (s.claimHeard id).bus.controllerOn = s.bus.controllerOn ∧
    (s.claimHeard id).bus.standingTimer = s.bus.standingTimer ∧
    (s.claimHeard id).bus.announcedSurplus = s.bus.announcedSurplus ∧
    (s.claimHeard id).bus.announcedFlags = s.bus.announcedFlags ∧
    (s.claimHeard id).bus.ignored = s.bus.ignored ∧
    (s.claimHeard id).bus.peers = s.bus.peers ∧
    (s.claimHeard id).port.settings = s.port.settings ∧
    (s.claimHeard id).port.response = s.port.response ∧
    (s.claimHeard id).port.spiOut = s.port.spiOut ∧
    (s.claimHeard id).port.snapshot = s.port.snapshot ∧
    (s.claimHeard id).port.protection = s.port.protection ∧
    (s.claimHeard id).port.mask = s.port.mask := by
  unfold State.claimHeard; dsimp only; (repeat' split) <;> simp

@[simp] theorem State.releaseHeard_frame (s : State) (x id n d : Nat) :
    (s.releaseHeard x id n d).acct = s.acct ∧
    (s.releaseHeard x id n d).grants = s.grants ∧
    (s.releaseHeard x id n d).slots = s.slots ∧
    (s.releaseHeard x id n d).rates = s.rates ∧
    (s.releaseHeard x id n d).runs = s.runs ∧
    (s.releaseHeard x id n d).job = s.job ∧
    (s.releaseHeard x id n d).share = s.share ∧
    (s.releaseHeard x id n d).refill = s.refill ∧
    (s.releaseHeard x id n d).lines = s.lines ∧
    (s.releaseHeard x id n d).outs = s.outs ∧
    (s.releaseHeard x id n d).pending = s.pending ∧
    (s.releaseHeard x id n d).bus.state = s.bus.state ∧
    (s.releaseHeard x id n d).bus.controllerOn = s.bus.controllerOn ∧
    (s.releaseHeard x id n d).bus.standingTimer = s.bus.standingTimer ∧
    (s.releaseHeard x id n d).bus.announcedSurplus = s.bus.announcedSurplus ∧
    (s.releaseHeard x id n d).bus.announcedFlags = s.bus.announcedFlags ∧
    (s.releaseHeard x id n d).bus.ignored = s.bus.ignored ∧
    (s.releaseHeard x id n d).bus.peers = s.bus.peers ∧
    (s.releaseHeard x id n d).port.settings = s.port.settings ∧
    (s.releaseHeard x id n d).port.response = s.port.response ∧
    (s.releaseHeard x id n d).port.spiOut = s.port.spiOut ∧
    (s.releaseHeard x id n d).port.snapshot = s.port.snapshot ∧
    (s.releaseHeard x id n d).port.protection = s.port.protection ∧
    (s.releaseHeard x id n d).port.mask = s.port.mask := by
  unfold State.releaseHeard; dsimp only; (repeat' split) <;> simp

@[simp] theorem State.answerFromList_frame (s : State) (id : Nat) :
    (s.answerFromList id).acct = s.acct ∧
    (s.answerFromList id).grants = s.grants ∧
    (s.answerFromList id).slots = s.slots ∧
    (s.answerFromList id).rates = s.rates ∧
    (s.answerFromList id).runs = s.runs ∧
    (s.answerFromList id).job = s.job ∧
    (s.answerFromList id).stock = s.stock ∧
    (s.answerFromList id).share = s.share ∧
    (s.answerFromList id).refill = s.refill ∧
    (s.answerFromList id).lines = s.lines ∧
    (s.answerFromList id).outs = s.outs ∧
    (s.answerFromList id).pending = s.pending ∧
    (s.answerFromList id).bus.state = s.bus.state ∧
    (s.answerFromList id).bus.controllerOn = s.bus.controllerOn ∧
    (s.answerFromList id).bus.standingTimer = s.bus.standingTimer ∧
    (s.answerFromList id).bus.announcedSurplus = s.bus.announcedSurplus ∧
    (s.answerFromList id).bus.announcedFlags = s.bus.announcedFlags ∧
    (s.answerFromList id).bus.ignored = s.bus.ignored ∧
    (s.answerFromList id).bus.peers = s.bus.peers ∧
    (s.answerFromList id).port.settings = s.port.settings ∧
    (s.answerFromList id).port.response = s.port.response ∧
    (s.answerFromList id).port.spiOut = s.port.spiOut ∧
    (s.answerFromList id).port.snapshot = s.port.snapshot ∧
    (s.answerFromList id).port.protection = s.port.protection ∧
    (s.answerFromList id).port.mask = s.port.mask := by
  unfold State.answerFromList; split <;> simp

@[simp] theorem State.answerAsk_frame (s : State) (id : Nat) :
    (s.answerAsk id).acct = s.acct ∧
    (s.answerAsk id).grants = s.grants ∧
    (s.answerAsk id).slots = s.slots ∧
    (s.answerAsk id).rates = s.rates ∧
    (s.answerAsk id).runs = s.runs ∧
    (s.answerAsk id).job = s.job ∧
    (s.answerAsk id).stock = s.stock ∧
    (s.answerAsk id).share = s.share ∧
    (s.answerAsk id).refill = s.refill ∧
    (s.answerAsk id).lines = s.lines ∧
    (s.answerAsk id).outs = s.outs ∧
    (s.answerAsk id).pending = s.pending ∧
    (s.answerAsk id).bus.state = s.bus.state ∧
    (s.answerAsk id).bus.controllerOn = s.bus.controllerOn ∧
    (s.answerAsk id).bus.standingTimer = s.bus.standingTimer ∧
    (s.answerAsk id).bus.announcedSurplus = s.bus.announcedSurplus ∧
    (s.answerAsk id).bus.announcedFlags = s.bus.announcedFlags ∧
    (s.answerAsk id).bus.ignored = s.bus.ignored ∧
    (s.answerAsk id).bus.peers = s.bus.peers ∧
    (s.answerAsk id).port.settings = s.port.settings ∧
    (s.answerAsk id).port.response = s.port.response ∧
    (s.answerAsk id).port.spiOut = s.port.spiOut ∧
    (s.answerAsk id).port.snapshot = s.port.snapshot ∧
    (s.answerAsk id).port.protection = s.port.protection ∧
    (s.answerAsk id).port.mask = s.port.mask := by
  unfold State.answerAsk; (repeat' split) <;> simp

@[simp] theorem State.unmount_frame (s : State) (r : Reel) :
    (s.unmount r).acct = s.acct ∧
    (s.unmount r).grants = s.grants ∧
    (s.unmount r).slots = s.slots ∧
    (s.unmount r).rates = s.rates ∧
    (s.unmount r).runs = s.runs ∧
    (s.unmount r).job = s.job ∧
    (s.unmount r).share = s.share ∧
    (s.unmount r).refill = s.refill ∧
    (s.unmount r).lines = s.lines ∧
    (s.unmount r).outs = s.outs ∧
    (s.unmount r).pending = s.pending ∧
    (s.unmount r).bus.state = s.bus.state ∧
    (s.unmount r).bus.controllerOn = s.bus.controllerOn ∧
    (s.unmount r).bus.standingTimer = s.bus.standingTimer ∧
    (s.unmount r).bus.announcedSurplus = s.bus.announcedSurplus ∧
    (s.unmount r).bus.announcedFlags = s.bus.announcedFlags ∧
    (s.unmount r).bus.ignored = s.bus.ignored ∧
    (s.unmount r).bus.peers = s.bus.peers ∧
    (s.unmount r).port.settings = s.port.settings ∧
    (s.unmount r).port.response = s.port.response ∧
    (s.unmount r).port.spiOut = s.port.spiOut ∧
    (s.unmount r).port.snapshot = s.port.snapshot ∧
    (s.unmount r).port.protection = s.port.protection ∧
    (s.unmount r).port.mask = s.port.mask := by
  unfold State.unmount; (repeat' split) <;> simp

@[simp] theorem State.chargeStamp_frame (s : State) (f : Feeder) (d : Nat) :
    (s.chargeStamp f d).acct = s.acct ∧
    (s.chargeStamp f d).grants = s.grants ∧
    (s.chargeStamp f d).rates = s.rates ∧
    (s.chargeStamp f d).runs = s.runs ∧
    (s.chargeStamp f d).job = s.job ∧
    (s.chargeStamp f d).bus = s.bus ∧
    (s.chargeStamp f d).share = s.share ∧
    (s.chargeStamp f d).refill = s.refill ∧
    (s.chargeStamp f d).lines = s.lines ∧
    (s.chargeStamp f d).outs = s.outs ∧
    (s.chargeStamp f d).pending = s.pending ∧
    (s.chargeStamp f d).stock.table = s.stock.table ∧
    (s.chargeStamp f d).stock.released = s.stock.released ∧
    (s.chargeStamp f d).stock.issuedValue = s.stock.issuedValue ∧
    (s.chargeStamp f d).stock.unaccounted = s.stock.unaccounted ∧
    (s.chargeStamp f d).port.settings = s.port.settings ∧
    (s.chargeStamp f d).port.response = s.port.response ∧
    (s.chargeStamp f d).port.spiOut = s.port.spiOut ∧
    (s.chargeStamp f d).port.snapshot = s.port.snapshot ∧
    (s.chargeStamp f d).port.protection = s.port.protection ∧
    (s.chargeStamp f d).port.mask = s.port.mask := by
  unfold State.chargeStamp; split <;> simp

@[simp] theorem State.countStamp_frame (s : State) (f : Feeder) (r : Reel) :
    (s.countStamp f r).acct = s.acct ∧
    (s.countStamp f r).grants = s.grants ∧
    (s.countStamp f r).rates = s.rates ∧
    (s.countStamp f r).runs = s.runs ∧
    (s.countStamp f r).job = s.job ∧
    (s.countStamp f r).share = s.share ∧
    (s.countStamp f r).refill = s.refill ∧
    (s.countStamp f r).lines = s.lines ∧
    (s.countStamp f r).outs = s.outs ∧
    (s.countStamp f r).pending = s.pending ∧
    (s.countStamp f r).bus.state = s.bus.state ∧
    (s.countStamp f r).bus.controllerOn = s.bus.controllerOn ∧
    (s.countStamp f r).bus.standingTimer = s.bus.standingTimer ∧
    (s.countStamp f r).bus.announcedSurplus = s.bus.announcedSurplus ∧
    (s.countStamp f r).bus.announcedFlags = s.bus.announcedFlags ∧
    (s.countStamp f r).bus.ignored = s.bus.ignored ∧
    (s.countStamp f r).bus.peers = s.bus.peers ∧
    (s.countStamp f r).port.settings = s.port.settings ∧
    (s.countStamp f r).port.response = s.port.response ∧
    (s.countStamp f r).port.spiOut = s.port.spiOut ∧
    (s.countStamp f r).port.snapshot = s.port.snapshot ∧
    (s.countStamp f r).port.protection = s.port.protection ∧
    (s.countStamp f r).port.mask = s.port.mask := by
  unfold State.countStamp; dsimp only; (repeat' split) <;> simp

@[simp] theorem State.unaccountedIssue_frame (s : State) :
    s.unaccountedIssue.acct = s.acct ∧
    s.unaccountedIssue.grants = s.grants ∧
    s.unaccountedIssue.slots = s.slots ∧
    s.unaccountedIssue.rates = s.rates ∧
    s.unaccountedIssue.runs = s.runs ∧
    s.unaccountedIssue.job = s.job ∧
    s.unaccountedIssue.bus = s.bus ∧
    s.unaccountedIssue.share = s.share ∧
    s.unaccountedIssue.refill = s.refill ∧
    s.unaccountedIssue.lines = s.lines ∧
    s.unaccountedIssue.outs = s.outs ∧
    s.unaccountedIssue.pending = s.pending ∧
    s.unaccountedIssue.port.settings = s.port.settings ∧
    s.unaccountedIssue.port.response = s.port.response ∧
    s.unaccountedIssue.port.spiOut = s.port.spiOut ∧
    s.unaccountedIssue.port.snapshot = s.port.snapshot ∧
    s.unaccountedIssue.port.protection = s.port.protection ∧
    s.unaccountedIssue.port.mask = s.port.mask := by
  unfold State.unaccountedIssue; simp

@[simp] theorem State.issue_frame (s : State) (f : Feeder) :
    (s.issue f).acct = s.acct ∧
    (s.issue f).grants = s.grants ∧
    (s.issue f).rates = s.rates ∧
    (s.issue f).runs = s.runs ∧
    (s.issue f).job = s.job ∧
    (s.issue f).share = s.share ∧
    (s.issue f).refill = s.refill ∧
    (s.issue f).lines = s.lines ∧
    (s.issue f).outs = s.outs ∧
    (s.issue f).pending = s.pending ∧
    (s.issue f).bus.state = s.bus.state ∧
    (s.issue f).bus.controllerOn = s.bus.controllerOn ∧
    (s.issue f).bus.standingTimer = s.bus.standingTimer ∧
    (s.issue f).bus.announcedSurplus = s.bus.announcedSurplus ∧
    (s.issue f).bus.announcedFlags = s.bus.announcedFlags ∧
    (s.issue f).bus.ignored = s.bus.ignored ∧
    (s.issue f).bus.peers = s.bus.peers ∧
    (s.issue f).port.settings = s.port.settings ∧
    (s.issue f).port.response = s.port.response ∧
    (s.issue f).port.spiOut = s.port.spiOut ∧
    (s.issue f).port.snapshot = s.port.snapshot ∧
    (s.issue f).port.protection = s.port.protection ∧
    (s.issue f).port.mask = s.port.mask := by
  unfold State.issue; (repeat' split) <;> simp

@[simp] theorem State.askWindowExpiry_frame (s : State) (id : Nat) :
    (s.askWindowExpiry id).acct = s.acct ∧
    (s.askWindowExpiry id).grants = s.grants ∧
    (s.askWindowExpiry id).slots = s.slots ∧
    (s.askWindowExpiry id).rates = s.rates ∧
    (s.askWindowExpiry id).runs = s.runs ∧
    (s.askWindowExpiry id).job = s.job ∧
    (s.askWindowExpiry id).share = s.share ∧
    (s.askWindowExpiry id).refill = s.refill ∧
    (s.askWindowExpiry id).lines = s.lines ∧
    (s.askWindowExpiry id).outs = s.outs ∧
    (s.askWindowExpiry id).pending = s.pending ∧
    (s.askWindowExpiry id).bus.state = s.bus.state ∧
    (s.askWindowExpiry id).bus.controllerOn = s.bus.controllerOn ∧
    (s.askWindowExpiry id).bus.standingTimer = s.bus.standingTimer ∧
    (s.askWindowExpiry id).bus.announcedSurplus = s.bus.announcedSurplus ∧
    (s.askWindowExpiry id).bus.announcedFlags = s.bus.announcedFlags ∧
    (s.askWindowExpiry id).bus.ignored = s.bus.ignored ∧
    (s.askWindowExpiry id).bus.peers = s.bus.peers ∧
    (s.askWindowExpiry id).port.settings = s.port.settings ∧
    (s.askWindowExpiry id).port.response = s.port.response ∧
    (s.askWindowExpiry id).port.spiOut = s.port.spiOut ∧
    (s.askWindowExpiry id).port.snapshot = s.port.snapshot ∧
    (s.askWindowExpiry id).port.protection = s.port.protection ∧
    (s.askWindowExpiry id).port.mask = s.port.mask := by
  unfold State.askWindowExpiry; (repeat' split) <;> simp

@[simp] theorem State.ignoreFrame_frame (s : State) :
    s.ignoreFrame.acct = s.acct ∧
    s.ignoreFrame.grants = s.grants ∧
    s.ignoreFrame.slots = s.slots ∧
    s.ignoreFrame.rates = s.rates ∧
    s.ignoreFrame.runs = s.runs ∧
    s.ignoreFrame.job = s.job ∧
    s.ignoreFrame.stock = s.stock ∧
    s.ignoreFrame.share = s.share ∧
    s.ignoreFrame.refill = s.refill ∧
    s.ignoreFrame.port = s.port ∧
    s.ignoreFrame.lines = s.lines ∧
    s.ignoreFrame.outs = s.outs ∧
    s.ignoreFrame.pending = s.pending ∧
    s.ignoreFrame.bus.state = s.bus.state ∧
    s.ignoreFrame.bus.controllerOn = s.bus.controllerOn ∧
    s.ignoreFrame.bus.tx = s.bus.tx ∧
    s.ignoreFrame.bus.standingTimer = s.bus.standingTimer ∧
    s.ignoreFrame.bus.announcedSurplus = s.bus.announcedSurplus ∧
    s.ignoreFrame.bus.announcedFlags = s.bus.announcedFlags ∧
    s.ignoreFrame.bus.peers = s.bus.peers := by
  unfold State.ignoreFrame; simp

@[simp] theorem State.duplicateFrame_frame (s : State) :
    s.duplicateFrame.acct = s.acct ∧
    s.duplicateFrame.grants = s.grants ∧
    s.duplicateFrame.slots = s.slots ∧
    s.duplicateFrame.rates = s.rates ∧
    s.duplicateFrame.runs = s.runs ∧
    s.duplicateFrame.job = s.job ∧
    s.duplicateFrame.stock = s.stock ∧
    s.duplicateFrame.share = s.share ∧
    s.duplicateFrame.refill = s.refill ∧
    s.duplicateFrame.lines = s.lines ∧
    s.duplicateFrame.outs = s.outs ∧
    s.duplicateFrame.pending = s.pending ∧
    s.duplicateFrame.bus.controllerOn = s.bus.controllerOn ∧
    s.duplicateFrame.bus.announcedSurplus = s.bus.announcedSurplus ∧
    s.duplicateFrame.bus.announcedFlags = s.bus.announcedFlags ∧
    s.duplicateFrame.bus.ignored = s.bus.ignored ∧
    s.duplicateFrame.bus.peers = s.bus.peers ∧
    s.duplicateFrame.port.settings = s.port.settings ∧
    s.duplicateFrame.port.response = s.port.response ∧
    s.duplicateFrame.port.spiOut = s.port.spiOut ∧
    s.duplicateFrame.port.snapshot = s.port.snapshot ∧
    s.duplicateFrame.port.protection = s.port.protection ∧
    s.duplicateFrame.port.mask = s.port.mask := by
  unfold State.duplicateFrame; split <;> simp

@[simp] theorem State.hearPeer_frame (s : State) (x : Nat) :
    (s.hearPeer x).acct = s.acct ∧
    (s.hearPeer x).grants = s.grants ∧
    (s.hearPeer x).slots = s.slots ∧
    (s.hearPeer x).rates = s.rates ∧
    (s.hearPeer x).runs = s.runs ∧
    (s.hearPeer x).job = s.job ∧
    (s.hearPeer x).stock = s.stock ∧
    (s.hearPeer x).share = s.share ∧
    (s.hearPeer x).refill = s.refill ∧
    (s.hearPeer x).port = s.port ∧
    (s.hearPeer x).lines = s.lines ∧
    (s.hearPeer x).outs = s.outs ∧
    (s.hearPeer x).pending = s.pending ∧
    (s.hearPeer x).bus.state = s.bus.state ∧
    (s.hearPeer x).bus.controllerOn = s.bus.controllerOn ∧
    (s.hearPeer x).bus.tx = s.bus.tx ∧
    (s.hearPeer x).bus.standingTimer = s.bus.standingTimer ∧
    (s.hearPeer x).bus.announcedSurplus = s.bus.announcedSurplus ∧
    (s.hearPeer x).bus.announcedFlags = s.bus.announcedFlags ∧
    (s.hearPeer x).bus.ignored = s.bus.ignored := by
  unfold State.hearPeer; simp

@[simp] theorem State.notePeer_frame (s : State) (x a d : Nat) (f : StandingFlags) :
    (s.notePeer x a d f).acct = s.acct ∧
    (s.notePeer x a d f).grants = s.grants ∧
    (s.notePeer x a d f).slots = s.slots ∧
    (s.notePeer x a d f).rates = s.rates ∧
    (s.notePeer x a d f).runs = s.runs ∧
    (s.notePeer x a d f).job = s.job ∧
    (s.notePeer x a d f).stock = s.stock ∧
    (s.notePeer x a d f).share = s.share ∧
    (s.notePeer x a d f).refill = s.refill ∧
    (s.notePeer x a d f).port = s.port ∧
    (s.notePeer x a d f).lines = s.lines ∧
    (s.notePeer x a d f).outs = s.outs ∧
    (s.notePeer x a d f).pending = s.pending ∧
    (s.notePeer x a d f).bus.state = s.bus.state ∧
    (s.notePeer x a d f).bus.controllerOn = s.bus.controllerOn ∧
    (s.notePeer x a d f).bus.tx = s.bus.tx ∧
    (s.notePeer x a d f).bus.standingTimer = s.bus.standingTimer ∧
    (s.notePeer x a d f).bus.announcedSurplus = s.bus.announcedSurplus ∧
    (s.notePeer x a d f).bus.announcedFlags = s.bus.announcedFlags ∧
    (s.notePeer x a d f).bus.ignored = s.bus.ignored := by
  unfold State.notePeer; simp

@[simp] theorem State.standingHeard_frame (s : State) (x a d : Nat) (f : StandingFlags) :
    (s.standingHeard x a d f).acct = s.acct ∧
    (s.standingHeard x a d f).grants = s.grants ∧
    (s.standingHeard x a d f).slots = s.slots ∧
    (s.standingHeard x a d f).rates = s.rates ∧
    (s.standingHeard x a d f).runs = s.runs ∧
    (s.standingHeard x a d f).job = s.job ∧
    (s.standingHeard x a d f).stock = s.stock ∧
    (s.standingHeard x a d f).share = s.share ∧
    (s.standingHeard x a d f).refill = s.refill ∧
    (s.standingHeard x a d f).lines = s.lines ∧
    (s.standingHeard x a d f).outs = s.outs ∧
    (s.standingHeard x a d f).pending = s.pending ∧
    (s.standingHeard x a d f).port.settings = s.port.settings ∧
    (s.standingHeard x a d f).port.response = s.port.response ∧
    (s.standingHeard x a d f).port.spiOut = s.port.spiOut ∧
    (s.standingHeard x a d f).port.snapshot = s.port.snapshot ∧
    (s.standingHeard x a d f).port.protection = s.port.protection ∧
    (s.standingHeard x a d f).port.mask = s.port.mask := by
  unfold State.standingHeard; simp

@[simp] theorem State.noteHeard_frame (s : State) (x : Nat) (k : NoteKind) (id n d : Nat) :
    (s.noteHeard x k id n d).acct = s.acct ∧
    (s.noteHeard x k id n d).grants = s.grants ∧
    (s.noteHeard x k id n d).slots = s.slots ∧
    (s.noteHeard x k id n d).rates = s.rates ∧
    (s.noteHeard x k id n d).runs = s.runs ∧
    (s.noteHeard x k id n d).job = s.job ∧
    (s.noteHeard x k id n d).share = s.share ∧
    (s.noteHeard x k id n d).refill = s.refill ∧
    (s.noteHeard x k id n d).lines = s.lines ∧
    (s.noteHeard x k id n d).outs = s.outs ∧
    (s.noteHeard x k id n d).pending = s.pending ∧
    (s.noteHeard x k id n d).port.settings = s.port.settings ∧
    (s.noteHeard x k id n d).port.response = s.port.response ∧
    (s.noteHeard x k id n d).port.spiOut = s.port.spiOut ∧
    (s.noteHeard x k id n d).port.snapshot = s.port.snapshot ∧
    (s.noteHeard x k id n d).port.protection = s.port.protection ∧
    (s.noteHeard x k id n d).port.mask = s.port.mask := by
  unfold State.noteHeard; split <;> simp

@[simp] theorem State.frameHeard_frame (s : State) (x : Nat) (f : BusFrame) :
    (s.frameHeard x f).grants = s.grants ∧
    (s.frameHeard x f).slots = s.slots ∧
    (s.frameHeard x f).rates = s.rates ∧
    (s.frameHeard x f).runs = s.runs ∧
    (s.frameHeard x f).job = s.job ∧
    (s.frameHeard x f).stock = s.stock ∧
    (s.frameHeard x f).refill = s.refill ∧
    (s.frameHeard x f).lines = s.lines ∧
    (s.frameHeard x f).outs = s.outs ∧
    (s.frameHeard x f).pending = s.pending ∧
    (s.frameHeard x f).port.settings = s.port.settings ∧
    (s.frameHeard x f).port.response = s.port.response ∧
    (s.frameHeard x f).port.spiOut = s.port.spiOut ∧
    (s.frameHeard x f).port.snapshot = s.port.snapshot ∧
    (s.frameHeard x f).port.protection = s.port.protection ∧
    (s.frameHeard x f).port.mask = s.port.mask := by
  unfold State.frameHeard
  split
  · cases f <;> simp
  · cases f <;> simp

@[simp] theorem State.acceptFrame_frame (s : State) (x : Nat) (f : BusFrame) :
    (s.acceptFrame x f).grants = s.grants ∧
    (s.acceptFrame x f).slots = s.slots ∧
    (s.acceptFrame x f).rates = s.rates ∧
    (s.acceptFrame x f).runs = s.runs ∧
    (s.acceptFrame x f).job = s.job ∧
    (s.acceptFrame x f).refill = s.refill ∧
    (s.acceptFrame x f).lines = s.lines ∧
    (s.acceptFrame x f).outs = s.outs ∧
    (s.acceptFrame x f).pending = s.pending ∧
    (s.acceptFrame x f).port.settings = s.port.settings ∧
    (s.acceptFrame x f).port.response = s.port.response ∧
    (s.acceptFrame x f).port.spiOut = s.port.spiOut ∧
    (s.acceptFrame x f).port.snapshot = s.port.snapshot ∧
    (s.acceptFrame x f).port.protection = s.port.protection ∧
    (s.acceptFrame x f).port.mask = s.port.mask := by
  unfold State.acceptFrame
  cases f <;> dsimp only <;> (try split) <;> simp

@[simp] theorem State.receiveFrom_frame (s : State) (x : Nat) (f : Option BusFrame) :
    (s.receiveFrom x f).grants = s.grants ∧
    (s.receiveFrom x f).slots = s.slots ∧
    (s.receiveFrom x f).rates = s.rates ∧
    (s.receiveFrom x f).runs = s.runs ∧
    (s.receiveFrom x f).job = s.job ∧
    (s.receiveFrom x f).refill = s.refill ∧
    (s.receiveFrom x f).lines = s.lines ∧
    (s.receiveFrom x f).outs = s.outs ∧
    (s.receiveFrom x f).pending = s.pending ∧
    (s.receiveFrom x f).port.settings = s.port.settings ∧
    (s.receiveFrom x f).port.response = s.port.response ∧
    (s.receiveFrom x f).port.spiOut = s.port.spiOut ∧
    (s.receiveFrom x f).port.snapshot = s.port.snapshot ∧
    (s.receiveFrom x f).port.protection = s.port.protection ∧
    (s.receiveFrom x f).port.mask = s.port.mask := by
  unfold State.receiveFrom; (repeat' split) <;> simp

@[simp] theorem State.receive_frame (s : State) (x : BitVec 5) (f : BusFrame) :
    (s.receive x f).grants = s.grants ∧
    (s.receive x f).slots = s.slots ∧
    (s.receive x f).rates = s.rates ∧
    (s.receive x f).runs = s.runs ∧
    (s.receive x f).job = s.job ∧
    (s.receive x f).refill = s.refill ∧
    (s.receive x f).lines = s.lines ∧
    (s.receive x f).outs = s.outs ∧
    (s.receive x f).pending = s.pending ∧
    (s.receive x f).port.settings = s.port.settings ∧
    (s.receive x f).port.response = s.port.response ∧
    (s.receive x f).port.spiOut = s.port.spiOut ∧
    (s.receive x f).port.snapshot = s.port.snapshot ∧
    (s.receive x f).port.protection = s.port.protection ∧
    (s.receive x f).port.mask = s.port.mask := by
  unfold State.receive; split <;> simp

@[simp] theorem State.receiveRaw_frame (s : State) (f : RxFrame) :
    (s.receiveRaw f).grants = s.grants ∧
    (s.receiveRaw f).slots = s.slots ∧
    (s.receiveRaw f).rates = s.rates ∧
    (s.receiveRaw f).runs = s.runs ∧
    (s.receiveRaw f).job = s.job ∧
    (s.receiveRaw f).refill = s.refill ∧
    (s.receiveRaw f).lines = s.lines ∧
    (s.receiveRaw f).outs = s.outs ∧
    (s.receiveRaw f).pending = s.pending ∧
    (s.receiveRaw f).port.settings = s.port.settings ∧
    (s.receiveRaw f).port.response = s.port.response ∧
    (s.receiveRaw f).port.spiOut = s.port.spiOut ∧
    (s.receiveRaw f).port.snapshot = s.port.snapshot ∧
    (s.receiveRaw f).port.protection = s.port.protection ∧
    (s.receiveRaw f).port.mask = s.port.mask := by
  unfold State.receiveRaw; (repeat' split) <;> simp

@[simp] theorem State.frameSent_frame (s : State) :
    s.frameSent.acct = s.acct ∧
    s.frameSent.grants = s.grants ∧
    s.frameSent.slots = s.slots ∧
    s.frameSent.rates = s.rates ∧
    s.frameSent.runs = s.runs ∧
    s.frameSent.job = s.job ∧
    s.frameSent.stock = s.stock ∧
    s.frameSent.refill = s.refill ∧
    s.frameSent.lines = s.lines ∧
    s.frameSent.outs = s.outs ∧
    s.frameSent.pending = s.pending ∧
    s.frameSent.share.settleTimer = s.share.settleTimer ∧
    s.frameSent.share.retry = s.share.retry ∧
    s.frameSent.share.lastPledge = s.share.lastPledge ∧
    s.frameSent.share.pledges = s.share.pledges ∧
    s.frameSent.share.outRecord = s.share.outRecord ∧
    s.frameSent.share.unresolved = s.share.unresolved ∧
    s.frameSent.share.writtenOff = s.share.writtenOff ∧
    s.frameSent.port.settings = s.port.settings ∧
    s.frameSent.port.response = s.port.response ∧
    s.frameSent.port.spiOut = s.port.spiOut ∧
    s.frameSent.port.snapshot = s.port.snapshot ∧
    s.frameSent.port.protection = s.port.protection ∧
    s.frameSent.port.mask = s.port.mask := by
  unfold State.frameSent; (repeat' split) <;> simp

@[simp] theorem State.frameNotSent_frame (s : State) :
    s.frameNotSent.acct = s.acct ∧
    s.frameNotSent.grants = s.grants ∧
    s.frameNotSent.slots = s.slots ∧
    s.frameNotSent.rates = s.rates ∧
    s.frameNotSent.runs = s.runs ∧
    s.frameNotSent.job = s.job ∧
    s.frameNotSent.stock = s.stock ∧
    s.frameNotSent.share = s.share ∧
    s.frameNotSent.refill = s.refill ∧
    s.frameNotSent.port = s.port ∧
    s.frameNotSent.lines = s.lines ∧
    s.frameNotSent.outs = s.outs ∧
    s.frameNotSent.pending = s.pending ∧
    s.frameNotSent.bus.state = s.bus.state ∧
    s.frameNotSent.bus.controllerOn = s.bus.controllerOn ∧
    s.frameNotSent.bus.standingTimer = s.bus.standingTimer ∧
    s.frameNotSent.bus.announcedSurplus = s.bus.announcedSurplus ∧
    s.frameNotSent.bus.announcedFlags = s.bus.announcedFlags ∧
    s.frameNotSent.bus.ignored = s.bus.ignored ∧
    s.frameNotSent.bus.peers = s.bus.peers := by
  unfold State.frameNotSent; split <;> simp

@[simp] theorem State.busOff_frame (s : State) :
    s.busOff.acct = s.acct ∧
    s.busOff.grants = s.grants ∧
    s.busOff.slots = s.slots ∧
    s.busOff.rates = s.rates ∧
    s.busOff.runs = s.runs ∧
    s.busOff.job = s.job ∧
    s.busOff.stock = s.stock ∧
    s.busOff.share = s.share ∧
    s.busOff.refill = s.refill ∧
    s.busOff.lines = s.lines ∧
    s.busOff.outs = s.outs ∧
    s.busOff.pending = s.pending ∧
    s.busOff.port.settings = s.port.settings ∧
    s.busOff.port.response = s.port.response ∧
    s.busOff.port.spiOut = s.port.spiOut ∧
    s.busOff.port.snapshot = s.port.snapshot ∧
    s.busOff.port.protection = s.port.protection ∧
    s.busOff.port.mask = s.port.mask := by
  unfold State.busOff; split <;> simp

@[simp] theorem State.controllerReturn_frame (s : State) :
    s.controllerReturn.acct = s.acct ∧
    s.controllerReturn.grants = s.grants ∧
    s.controllerReturn.slots = s.slots ∧
    s.controllerReturn.rates = s.rates ∧
    s.controllerReturn.runs = s.runs ∧
    s.controllerReturn.job = s.job ∧
    s.controllerReturn.stock = s.stock ∧
    s.controllerReturn.share = s.share ∧
    s.controllerReturn.refill = s.refill ∧
    s.controllerReturn.port = s.port ∧
    s.controllerReturn.lines = s.lines ∧
    s.controllerReturn.outs = s.outs ∧
    s.controllerReturn.pending = s.pending := by
  unfold State.controllerReturn; split <;> simp

@[simp] theorem State.standingExpiry_frame (s : State) :
    s.standingExpiry.acct = s.acct ∧
    s.standingExpiry.grants = s.grants ∧
    s.standingExpiry.slots = s.slots ∧
    s.standingExpiry.rates = s.rates ∧
    s.standingExpiry.runs = s.runs ∧
    s.standingExpiry.job = s.job ∧
    s.standingExpiry.stock = s.stock ∧
    s.standingExpiry.share = s.share ∧
    s.standingExpiry.refill = s.refill ∧
    s.standingExpiry.lines = s.lines ∧
    s.standingExpiry.outs = s.outs ∧
    s.standingExpiry.pending = s.pending ∧
    s.standingExpiry.port.settings = s.port.settings ∧
    s.standingExpiry.port.response = s.port.response ∧
    s.standingExpiry.port.spiOut = s.port.spiOut ∧
    s.standingExpiry.port.snapshot = s.port.snapshot ∧
    s.standingExpiry.port.protection = s.port.protection ∧
    s.standingExpiry.port.mask = s.port.mask := by
  unfold State.standingExpiry; split <;> simp

@[simp] theorem State.peerAgeing_frame (s : State) (x : Nat) :
    (s.peerAgeing x).acct = s.acct ∧
    (s.peerAgeing x).grants = s.grants ∧
    (s.peerAgeing x).slots = s.slots ∧
    (s.peerAgeing x).rates = s.rates ∧
    (s.peerAgeing x).runs = s.runs ∧
    (s.peerAgeing x).job = s.job ∧
    (s.peerAgeing x).stock = s.stock ∧
    (s.peerAgeing x).share = s.share ∧
    (s.peerAgeing x).refill = s.refill ∧
    (s.peerAgeing x).port = s.port ∧
    (s.peerAgeing x).lines = s.lines ∧
    (s.peerAgeing x).outs = s.outs ∧
    (s.peerAgeing x).pending = s.pending := by
  unfold State.peerAgeing; simp

@[simp] theorem State.advanceBySetDay_frame (s : State) (d : Nat) :
    (s.advanceBySetDay d).stock = s.stock ∧
    (s.advanceBySetDay d).lines = s.lines ∧
    (s.advanceBySetDay d).outs = s.outs ∧
    (s.advanceBySetDay d).pending = s.pending ∧
    (s.advanceBySetDay d).grants.period = s.grants.period ∧
    (s.advanceBySetDay d).job.memory = s.job.memory ∧
    (s.advanceBySetDay d).port.settings = s.port.settings ∧
    (s.advanceBySetDay d).port.response = s.port.response ∧
    (s.advanceBySetDay d).port.spiOut = s.port.spiOut ∧
    (s.advanceBySetDay d).port.snapshot = s.port.snapshot ∧
    (s.advanceBySetDay d).port.protection = s.port.protection ∧
    (s.advanceBySetDay d).port.mask = s.port.mask := by
  unfold State.advanceBySetDay; simp

@[simp] theorem State.refillUpdate_frame (s : State) (r : RefillRecord) :
    (s.refillUpdate r).grants = s.grants ∧
    (s.refillUpdate r).slots = s.slots ∧
    (s.refillUpdate r).runs = s.runs ∧
    (s.refillUpdate r).job = s.job ∧
    (s.refillUpdate r).stock = s.stock ∧
    (s.refillUpdate r).bus = s.bus ∧
    (s.refillUpdate r).share = s.share ∧
    (s.refillUpdate r).lines = s.lines ∧
    (s.refillUpdate r).outs = s.outs ∧
    (s.refillUpdate r).pending = s.pending ∧
    (s.refillUpdate r).port.settings = s.port.settings ∧
    (s.refillUpdate r).port.response = s.port.response ∧
    (s.refillUpdate r).port.spiOut = s.port.spiOut ∧
    (s.refillUpdate r).port.snapshot = s.port.snapshot ∧
    (s.refillUpdate r).port.protection = s.port.protection ∧
    (s.refillUpdate r).port.mask = s.port.mask := by
  unfold State.refillUpdate; split <;> simp

@[simp] theorem State.refillApplied_frame (s : State) (r : RefillRecord) :
    (s.refillApplied r).grants = s.grants ∧
    (s.refillApplied r).slots = s.slots ∧
    (s.refillApplied r).runs = s.runs ∧
    (s.refillApplied r).job = s.job ∧
    (s.refillApplied r).stock = s.stock ∧
    (s.refillApplied r).bus = s.bus ∧
    (s.refillApplied r).share = s.share ∧
    (s.refillApplied r).lines = s.lines ∧
    (s.refillApplied r).outs = s.outs ∧
    (s.refillApplied r).pending = s.pending ∧
    (s.refillApplied r).port.settings = s.port.settings ∧
    (s.refillApplied r).port.response = s.port.response ∧
    (s.refillApplied r).port.spiOut = s.port.spiOut ∧
    (s.refillApplied r).port.snapshot = s.port.snapshot ∧
    (s.refillApplied r).port.protection = s.port.protection ∧
    (s.refillApplied r).port.mask = s.port.mask := by
  unfold State.refillApplied; simp

@[simp] theorem State.refillNeighbours_frame (s : State) (m : Mode) (a : Nat) :
    (s.refillNeighbours m a).rates = s.rates ∧
    (s.refillNeighbours m a).stock = s.stock ∧
    (s.refillNeighbours m a).refill = s.refill ∧
    (s.refillNeighbours m a).lines = s.lines ∧
    (s.refillNeighbours m a).outs = s.outs ∧
    (s.refillNeighbours m a).pending = s.pending ∧
    (s.refillNeighbours m a).grants.period = s.grants.period ∧
    (s.refillNeighbours m a).job.memory = s.job.memory ∧
    (s.refillNeighbours m a).port.settings = s.port.settings ∧
    (s.refillNeighbours m a).port.response = s.port.response ∧
    (s.refillNeighbours m a).port.spiOut = s.port.spiOut ∧
    (s.refillNeighbours m a).port.snapshot = s.port.snapshot ∧
    (s.refillNeighbours m a).port.protection = s.port.protection ∧
    (s.refillNeighbours m a).port.mask = s.port.mask := by
  unfold State.refillNeighbours; split <;> simp

@[simp] theorem State.startJob_frame (s : State) (a : Nat) (x y : Bool) :
    (s.startJob a x y).acct = s.acct ∧
    (s.startJob a x y).grants = s.grants ∧
    (s.startJob a x y).slots = s.slots ∧
    (s.startJob a x y).rates = s.rates ∧
    (s.startJob a x y).stock = s.stock ∧
    (s.startJob a x y).bus = s.bus ∧
    (s.startJob a x y).share = s.share ∧
    (s.startJob a x y).refill = s.refill ∧
    (s.startJob a x y).lines = s.lines ∧
    (s.startJob a x y).outs = s.outs ∧
    (s.startJob a x y).pending = s.pending ∧
    (s.startJob a x y).job.memory = s.job.memory ∧
    (s.startJob a x y).port.settings = s.port.settings ∧
    (s.startJob a x y).port.response = s.port.response ∧
    (s.startJob a x y).port.spiOut = s.port.spiOut ∧
    (s.startJob a x y).port.snapshot = s.port.snapshot ∧
    (s.startJob a x y).port.protection = s.port.protection ∧
    (s.startJob a x y).port.mask = s.port.mask := by
  unfold State.startJob; simp

@[simp] theorem State.resumeJob_frame (s : State) :
    s.resumeJob.acct = s.acct ∧
    s.resumeJob.grants = s.grants ∧
    s.resumeJob.slots = s.slots ∧
    s.resumeJob.rates = s.rates ∧
    s.resumeJob.stock = s.stock ∧
    s.resumeJob.bus = s.bus ∧
    s.resumeJob.share = s.share ∧
    s.resumeJob.refill = s.refill ∧
    s.resumeJob.lines = s.lines ∧
    s.resumeJob.outs = s.outs ∧
    s.resumeJob.pending = s.pending ∧
    s.resumeJob.runs.inFlight = s.runs.inFlight ∧
    s.resumeJob.runs.sending = s.runs.sending ∧
    s.resumeJob.runs.sendTimer = s.runs.sendTimer ∧
    s.resumeJob.runs.mechTimer = s.runs.mechTimer ∧
    s.resumeJob.runs.finished = s.runs.finished ∧
    s.resumeJob.runs.endedCount = s.runs.endedCount ∧
    s.resumeJob.job.memory = s.job.memory ∧
    s.resumeJob.port.settings = s.port.settings ∧
    s.resumeJob.port.response = s.port.response ∧
    s.resumeJob.port.spiOut = s.port.spiOut ∧
    s.resumeJob.port.snapshot = s.port.snapshot ∧
    s.resumeJob.port.protection = s.port.protection ∧
    s.resumeJob.port.mask = s.port.mask := by
  unfold State.resumeJob; split <;> simp

@[simp] theorem State.walkerIdle_frame (s : State) :
    s.walkerIdle.acct = s.acct ∧
    s.walkerIdle.grants = s.grants ∧
    s.walkerIdle.slots = s.slots ∧
    s.walkerIdle.rates = s.rates ∧
    s.walkerIdle.runs = s.runs ∧
    s.walkerIdle.stock = s.stock ∧
    s.walkerIdle.bus = s.bus ∧
    s.walkerIdle.share = s.share ∧
    s.walkerIdle.refill = s.refill ∧
    s.walkerIdle.port = s.port ∧
    s.walkerIdle.lines = s.lines ∧
    s.walkerIdle.outs = s.outs ∧
    s.walkerIdle.pending = s.pending ∧
    s.walkerIdle.job.memory = s.job.memory := by
  unfold State.walkerIdle; simp

@[simp] theorem State.haltJob_frame (s : State) :
    s.haltJob.rates = s.rates ∧
    s.haltJob.stock = s.stock ∧
    s.haltJob.refill = s.refill ∧
    s.haltJob.lines = s.lines ∧
    s.haltJob.outs = s.outs ∧
    s.haltJob.pending = s.pending ∧
    s.haltJob.grants.period = s.grants.period ∧
    s.haltJob.job.memory = s.job.memory ∧
    s.haltJob.port.settings = s.port.settings ∧
    s.haltJob.port.response = s.port.response ∧
    s.haltJob.port.spiOut = s.port.spiOut ∧
    s.haltJob.port.snapshot = s.port.snapshot ∧
    s.haltJob.port.protection = s.port.protection ∧
    s.haltJob.port.mask = s.port.mask := by
  unfold State.haltJob; (repeat' split) <;> simp

@[simp] theorem State.resumeRun_frame (s : State) (id : Nat) :
    (s.resumeRun id).rates = s.rates ∧
    (s.resumeRun id).stock = s.stock ∧
    (s.resumeRun id).refill = s.refill ∧
    (s.resumeRun id).lines = s.lines ∧
    (s.resumeRun id).outs = s.outs ∧
    (s.resumeRun id).pending = s.pending ∧
    (s.resumeRun id).grants.period = s.grants.period ∧
    (s.resumeRun id).job.memory = s.job.memory ∧
    (s.resumeRun id).port.settings = s.port.settings ∧
    (s.resumeRun id).port.response = s.port.response ∧
    (s.resumeRun id).port.spiOut = s.port.spiOut ∧
    (s.resumeRun id).port.snapshot = s.port.snapshot ∧
    (s.resumeRun id).port.protection = s.port.protection ∧
    (s.resumeRun id).port.mask = s.port.mask := by
  unfold State.resumeRun; simp

@[simp] theorem State.doneRise_frame (s : State) :
    s.doneRise.rates = s.rates ∧
    s.doneRise.stock = s.stock ∧
    s.doneRise.refill = s.refill ∧
    s.doneRise.outs = s.outs ∧
    s.doneRise.pending = s.pending ∧
    s.doneRise.grants.period = s.grants.period ∧
    s.doneRise.job.memory = s.job.memory ∧
    s.doneRise.port.settings = s.port.settings ∧
    s.doneRise.port.response = s.port.response ∧
    s.doneRise.port.spiOut = s.port.spiOut ∧
    s.doneRise.port.snapshot = s.port.snapshot ∧
    s.doneRise.port.protection = s.port.protection ∧
    s.doneRise.port.mask = s.port.mask := by
  unfold State.doneRise; dsimp only; (repeat' split) <;> simp

@[simp] theorem State.faultRise_frame (s : State) :
    s.faultRise.rates = s.rates ∧
    s.faultRise.stock = s.stock ∧
    s.faultRise.refill = s.refill ∧
    s.faultRise.outs = s.outs ∧
    s.faultRise.pending = s.pending ∧
    s.faultRise.grants.period = s.grants.period ∧
    s.faultRise.job.memory = s.job.memory ∧
    s.faultRise.port.settings = s.port.settings ∧
    s.faultRise.port.response = s.port.response ∧
    s.faultRise.port.spiOut = s.port.spiOut ∧
    s.faultRise.port.snapshot = s.port.snapshot ∧
    s.faultRise.port.protection = s.port.protection ∧
    s.faultRise.port.mask = s.port.mask := by
  unfold State.faultRise; dsimp only; (repeat' split) <;> simp

@[simp] theorem State.mechExpiry_frame (s : State) :
    s.mechExpiry.rates = s.rates ∧
    s.mechExpiry.stock = s.stock ∧
    s.mechExpiry.refill = s.refill ∧
    s.mechExpiry.lines = s.lines ∧
    s.mechExpiry.outs = s.outs ∧
    s.mechExpiry.pending = s.pending ∧
    s.mechExpiry.grants.period = s.grants.period ∧
    s.mechExpiry.job.memory = s.job.memory ∧
    s.mechExpiry.port.settings = s.port.settings ∧
    s.mechExpiry.port.response = s.port.response ∧
    s.mechExpiry.port.spiOut = s.port.spiOut ∧
    s.mechExpiry.port.snapshot = s.port.snapshot ∧
    s.mechExpiry.port.protection = s.port.protection ∧
    s.mechExpiry.port.mask = s.port.mask := by
  unfold State.mechExpiry; split <;> simp

@[simp] theorem State.sendingEnd_frame (s : State) :
    s.sendingEnd.acct = s.acct ∧
    s.sendingEnd.grants = s.grants ∧
    s.sendingEnd.slots = s.slots ∧
    s.sendingEnd.rates = s.rates ∧
    s.sendingEnd.job = s.job ∧
    s.sendingEnd.stock = s.stock ∧
    s.sendingEnd.bus = s.bus ∧
    s.sendingEnd.share = s.share ∧
    s.sendingEnd.refill = s.refill ∧
    s.sendingEnd.port = s.port ∧
    s.sendingEnd.lines = s.lines ∧
    s.sendingEnd.outs = s.outs ∧
    s.sendingEnd.pending = s.pending := by
  simp [State.sendingEnd]

@[simp] theorem State.serviceFall_frame (s : State) :
    s.serviceFall.acct = s.acct ∧
    s.serviceFall.grants = s.grants ∧
    s.serviceFall.slots = s.slots ∧
    s.serviceFall.rates = s.rates ∧
    s.serviceFall.runs = s.runs ∧
    s.serviceFall.job = s.job ∧
    s.serviceFall.stock = s.stock ∧
    s.serviceFall.bus = s.bus ∧
    s.serviceFall.share = s.share ∧
    s.serviceFall.refill = s.refill ∧
    s.serviceFall.outs = s.outs ∧
    s.serviceFall.pending = s.pending ∧
    s.serviceFall.port.settings = s.port.settings ∧
    s.serviceFall.port.response = s.port.response ∧
    s.serviceFall.port.spiOut = s.port.spiOut ∧
    s.serviceFall.port.snapshot = s.port.snapshot ∧
    s.serviceFall.port.alarms = s.port.alarms ∧
    s.serviceFall.port.mask = s.port.mask := by
  unfold State.serviceFall; simp

end Sys2Proof.Machine
end

