-- ==== Sys2Proof/Laws/Tables.lean ====
section
/-! SUPPORT. The indexed tables: a slot or a grant record written is read back, and no other record
moves; feeders bound; alarms raised. -/

namespace Sys2Proof.Machine

theorem State.slot_eq {s t : State} (h : s.slots = t.slots) (i : Nat) : s.slot i = t.slot i := by
  unfold State.slot; rw [h]

theorem State.grant_eq {s t : State} (h : s.grants = t.grants) (g : Nat) : s.grant g = t.grant g := by
  unfold State.grant; rw [h]

/-- What slot j reads as once slot i has been replaced. -/
theorem State.slot_setSlot (s : State) (i j : Nat) (sl : Slot) :
    (s.setSlot i sl).slot j = if j = i ∧ i < 4 then sl else s.slot j := by
  unfold State.slot State.setSlot
  by_cases hj : j < 4
  · by_cases h : i = j
    · subst h; simp [hj]
    · have h' : ¬ (j = i ∧ i < 4) := fun x => h x.1.symm
      simp [hj, h, h']
  · have h' : ¬ (j = i ∧ i < 4) := fun x => hj (x.1 ▸ x.2)
    simp [hj, h']

/-- A slot above 3 reads as the slot of a new part. -/
theorem State.slot_of_ge (s : State) {i : Nat} (h : 4 ≤ i) : s.slot i = Slot.blank := by
  unfold State.slot; simp [Nat.not_lt.mpr h]

/-- What slot j reads as once slot i has been changed. -/
theorem State.slot_modSlot (s : State) (i j : Nat) (f : Slot → Slot) :
    (s.modSlot i f).slot j = if j = i ∧ i < 4 then f (s.slot i) else s.slot j :=
  State.slot_setSlot s i j _

/-- What grant record h reads as once record g has been replaced; record 0 is fixed (R23). -/
theorem State.grant_setGrant (s : State) (g h : Nat) (r : Grant) :
    (s.setGrant g r).grant h = if h = g ∧ g ≠ 0 ∧ g < 64 then r else s.grant h := by
  unfold State.setGrant
  by_cases hg : g = 0
  · simp [hg]
  · unfold State.grant
    by_cases hh : h = 0
    · have : ¬ (h = g ∧ g ≠ 0 ∧ g < 64) := fun x => hg (x.1 ▸ hh)
      simp [hg, hh, eq_comm]
    · by_cases hb : h - 1 < 63
      · by_cases he : g - 1 = h - 1
        · have e : h = g := by omega
          subst e
          have : h < 64 := by omega
          simp [hg, hb, this]
        · have e : h ≠ g := fun x => he (by rw [x])
          simp [hg, hh, hb, he, e]
      · have e : ¬ (h = g ∧ g ≠ 0 ∧ g < 64) := fun x => hb (by omega)
        simp only [hg, if_false, hh, e]
        simp [hb]

/-- Setting a feeder of a slot record. -/
@[simp] theorem Slot.bound_setBound (sl : Slot) (f g : Feeder) (b : Bool) :
    (sl.setBound f b).bound g = if f = g then b else sl.bound g := by
  cases f <;> cases g <;> rfl

@[simp] theorem Slot.setBound_frame (sl : Slot) (f : Feeder) (b : Bool) :
    (sl.setBound f b).state = sl.state ∧ (sl.setBound f b).grant = sl.grant ∧
    (sl.setBound f b).kind = sl.kind ∧ (sl.setBound f b).effective = sl.effective ∧
    (sl.setBound f b).spentAtOpen = sl.spentAtOpen ∧ (sl.setBound f b).printDelta = sl.printDelta ∧
    (sl.setBound f b).stockDelta = sl.stockDelta ∧ (sl.setBound f b).run = sl.run := by
  cases f <;> simp [Slot.setBound]

/-- The bit of an alarm in its word. -/
theorem Alarm.getLsbD_word (a : Alarm) (i : Nat) (h : i < 32) :
    a.word.getLsbD i = decide (a.bit = i) := by
  cases a <;> revert i <;> decide

/-- The alarm word after a raise, bit by bit. -/
theorem State.raise_bit (s : State) (a : Alarm) (i : Nat) (h : i < 32) :
    (s.raise a).port.alarms.getLsbD i = (s.port.alarms.getLsbD i || decide (a.bit = i)) := by
  simp [Alarm.getLsbD_word a i h]

/-- A raise sets its own alarm. -/
@[simp] theorem State.alarm_raise_self (s : State) (a : Alarm) : (s.raise a).alarm a = true := by
  have h : (s.port.alarms ||| a.word) &&& a.word = a.word := by
    ext i hi
    simp only [BitVec.getElem_and, BitVec.getElem_or]
    cases s.port.alarms[i] <;> simp
  unfold State.alarm
  rw [State.raise_port, h]
  cases a <;> decide

end Sys2Proof.Machine
end

