-- ==== Sys2Proof/Laws/Bus.lean ====
section
/-! SUPPORT. The transmit queue (R120, R121): what handing a frame over does, and the form it keeps; and
the alarms that may have been raised on the way. -/

namespace Sys2Proof.Machine

/-! ## Alarms -/

theorem RaisedWithin.refl (p : PortUnit) (l : List Alarm) : RaisedWithin p p l :=
  ⟨rfl, fun _ _ => .inl rfl⟩

theorem RaisedWithin.mono {p q : PortUnit} {l l' : List Alarm} (h : RaisedWithin p q l)
    (hl : ∀ a ∈ l, a ∈ l') : RaisedWithin p q l' :=
  ⟨h.1, fun i hi => (h.2 i hi).imp_right fun ⟨x, a, ha, hb⟩ => ⟨x, a, hl a ha, hb⟩⟩

theorem RaisedWithin.trans {p q r : PortUnit} {l : List Alarm} (h : RaisedWithin p q l)
    (k : RaisedWithin q r l) : RaisedWithin p r l := by
  refine ⟨?_, fun i hi => ?_⟩
  · have h1 := h.1; have k1 := k.1
    rw [h1] at k1; exact k1
  · rcases k.2 i hi with e | e
    · rcases h.2 i hi with d | ⟨d, a, ha⟩
      · exact .inl (e.trans d)
      · exact .inr ⟨e.trans d, a, ha⟩
    · exact .inr e

/-- One raise, of an alarm of the list. -/
theorem State.raise_within (s : State) {a : Alarm} {l : List Alarm} (h : a ∈ l) :
    RaisedWithin s.port (s.raise a).port l := by
  refine ⟨by simp, fun i hi => ?_⟩
  rw [State.raise_bit s a i hi]
  by_cases e : a.bit = i
  · exact .inr ⟨by simp [e], a, h, e⟩
  · exact .inl (by simp [e])

theorem State.raiseIf_within (s : State) (c : Bool) {a : Alarm} {l : List Alarm} (h : a ∈ l) :
    RaisedWithin s.port (s.raiseIf c a).port l := by
  unfold State.raiseIf
  split
  · exact s.raise_within h
  · exact .refl _ _

/-- A posting raises at most LOW_CREDIT (R14). -/
theorem State.post_within (s : State) (p : Posting) {l : List Alarm} (h : Alarm.lowCredit ∈ l) :
    RaisedWithin s.port (s.post p).port l := by
  unfold State.post
  exact State.raiseIf_within { s with acct := s.acct.post p } _ h

/-! ## The order of the queue -/

theorem mem_txInsert {f : BusFrame} {l : List TxEntry} {e : TxEntry} :
    e ∈ txInsert f l ↔ e = ⟨f, false⟩ ∨ e ∈ l := by
  induction l with
  | nil => simp [txInsert]
  | cons d rest ih =>
    unfold txInsert
    split
    · simp
    · simp only [List.mem_cons, ih]; tauto

@[simp] theorem length_txInsert (f : BusFrame) (l : List TxEntry) :
    (txInsert f l).length = l.length + 1 := by
  induction l with
  | nil => rfl
  | cons d rest ih => unfold txInsert; split <;> simp [ih]

@[simp] theorem frames_txLoad (l : List TxEntry) : (txLoad l).map (·.frame) = l.map (·.frame) := by
  cases l <;> rfl

@[simp] theorem length_txLoad (l : List TxEntry) : (txLoad l).length = l.length := by
  cases l <;> rfl

/-- The queue stays in the order of the kind codes (R120). -/
theorem sorted_txInsert {f : BusFrame} {l : List TxEntry}
    (h : (l.map fun e => e.frame.code).Pairwise (· ≤ ·)) :
    ((txInsert f l).map fun e => e.frame.code).Pairwise (· ≤ ·) := by
  induction l with
  | nil => simp [txInsert]
  | cons d rest ih =>
    have hd := List.pairwise_cons.mp h
    unfold txInsert
    split
    · rename_i hlt
      refine List.pairwise_cons.mpr ⟨fun x hx => ?_, h⟩
      rcases List.mem_cons.mp hx with rfl | hx
      · exact Nat.le_of_lt hlt
      · exact Nat.le_trans (Nat.le_of_lt hlt) (hd.1 x hx)
    · rename_i hge
      refine List.pairwise_cons.mpr ⟨fun x hx => ?_, ih hd.2⟩
      obtain ⟨e, he, rfl⟩ := List.mem_map.mp hx
      rcases mem_txInsert.mp he with rfl | he
      · exact Nat.not_lt.mp hge
      · exact hd.1 _ (List.mem_map.mpr ⟨e, he, rfl⟩)

/-! ## Handing over -/

/-- Loading the front moves no frame. -/
@[simp] theorem State.loadFront_frames (s : State) :
    s.loadFront.bus.tx.map (·.frame) = s.bus.tx.map (·.frame) := by
  unfold State.loadFront; split <;> simp

theorem State.queued_loadFront (s : State) (f : BusFrame) : Queued s.loadFront f ↔ Queued s f := by
  have h : ∀ u : State, Queued u f ↔ f ∈ u.bus.tx.map (·.frame) := fun u => by
    simp [Queued, List.mem_map]
  rw [h, h, State.loadFront_frames]

/-- What handing over a frame does to the queue: put in its place, found there already, discarded with
TX_OVERFLOW from a full queue, or nothing while the station does not send. -/
theorem State.enqueue_cases (s : State) (f : BusFrame) :
    (s.busSends = false ∧ s.enqueue f = s) ∨
    (s.busSends = true ∧ Queued s f ∧ s.enqueue f = s) ∨
    (s.busSends = true ∧ s.bus.tx.length < 16 ∧
      s.enqueue f = s.modBus fun b => { b with tx := txInsert f b.tx }) ∨
    (s.busSends = true ∧ 16 ≤ s.bus.tx.length ∧ s.enqueue f = s.raise .txOverflow) := by
  unfold State.enqueue
  by_cases h : s.busSends = true
  · rw [if_pos h]
    split
    · rename_i hq
      refine .inr (.inl ⟨h, ?_, rfl⟩)
      obtain ⟨e, he, hf⟩ := List.any_eq_true.mp hq
      exact ⟨e, he, by simpa using hf⟩
    · split
      · exact .inr (.inr (.inl ⟨h, by assumption, rfl⟩))
      · exact .inr (.inr (.inr ⟨h, by omega, rfl⟩))
  · rw [if_neg h]
    exact .inl ⟨by simpa using h, rfl⟩

/-- A frame handed over stays in the queue, and every frame that stood there still does. -/
theorem State.queued_enqueue_of (s : State) (f g : BusFrame) (h : Queued s g) :
    Queued (s.enqueue f) g := by
  rcases s.enqueue_cases f with ⟨_, e⟩ | ⟨_, _, e⟩ | ⟨_, _, e⟩ | ⟨_, _, e⟩ <;> rw [e]
  · exact h
  · exact h
  · obtain ⟨x, hx, hf⟩ := h
    exact ⟨x, by simpa using mem_txInsert.mpr (.inr hx), hf⟩
  · simpa [Queued] using h

/-! ## The queue kept -/

theorem QueueKept.refl (s : State) : QueueKept s s := ⟨List.Sublist.refl _, fun _ h _ => h⟩

theorem QueueKept.trans {s t u : State} (h : QueueKept s t) (k : QueueKept t u) : QueueKept s u :=
  ⟨h.1.trans k.1, fun e he hl => k.2 e (h.2 e he hl) hl⟩

/-- A queue of which every entry stands in another, in the same order, is kept there. -/
theorem QueueKept.of_sublist {s t : State} (h : s.bus.tx.Sublist t.bus.tx) : QueueKept s t :=
  ⟨(h.map _).filter _, fun _ he _ => h.subset he⟩

theorem QueueKept.of_tx {s t : State} (h : s.bus.tx = t.bus.tx) : QueueKept s t :=
  .of_sublist (by rw [h])

/-- A frame put into its place moves no other. -/
theorem sublist_txInsert (f : BusFrame) (l : List TxEntry) : l.Sublist (txInsert f l) := by
  induction l with
  | nil => exact List.nil_sublist _
  | cons d rest ih =>
    unfold txInsert
    split
    · exact List.sublist_cons_self _ _
    · exact ih.cons_cons d

theorem State.enqueue_kept (s : State) (f : BusFrame) : QueueKept s (s.enqueue f) := by
  rcases s.enqueue_cases f with ⟨_, e⟩ | ⟨_, _, e⟩ | ⟨_, _, e⟩ | ⟨_, _, e⟩ <;> rw [e]
  · exact .refl _
  · exact .refl _
  · exact .of_sublist (by simpa using sublist_txInsert f s.bus.tx)
  · exact .of_tx (by simp)

@[simp] theorem State.loadFront_framesKept (s : State) : framesKept s.loadFront = framesKept s := by
  unfold framesKept; rw [State.loadFront_frames]

theorem State.loadFront_kept (s : State) : QueueKept s s.loadFront := by
  refine ⟨by rw [State.loadFront_framesKept], fun e he hl => ?_⟩
  unfold State.loadFront
  split
  · rename_i h
    simp only [Bool.and_eq_true, List.all_eq_true] at h
    have := h.2 e he
    rw [hl] at this
    exact absurd this (by simp)
  · exact he

theorem State.handOver_kept (s : State) (f : BusFrame) : QueueKept s (s.handOver f) :=
  (s.enqueue_kept f).trans (State.loadFront_kept _)

/-- What R121 gives for a frame handed over. -/
theorem State.handOver_handedOver (s : State) (f : BusFrame) : HandedOver s (s.handOver f) f := by
  have key : (s.busSends = true → s.bus.tx.length < 16 → Queued (s.enqueue f) f) ∧
      (s.busSends = true → Queued (s.enqueue f) f ∨ (s.enqueue f).alarm .txOverflow = true) := by
    rcases s.enqueue_cases f with ⟨h, e⟩ | ⟨_, h, e⟩ | ⟨_, _, e⟩ | ⟨_, h, e⟩ <;> rw [e]
    · simp [h]
    · exact ⟨fun _ _ => h, fun _ => .inl h⟩
    · have q : Queued (s.modBus fun b => { b with tx := txInsert f b.tx }) f :=
        ⟨⟨f, false⟩, by simpa using mem_txInsert.mpr (.inl rfl), rfl⟩
      exact ⟨fun _ _ => q, fun _ => .inl q⟩
    · exact ⟨fun _ hl => absurd hl (by omega), fun _ => .inr (by simp)⟩
  have ha : (s.handOver f).alarm .txOverflow = (s.enqueue f).alarm .txOverflow := by
    unfold State.alarm State.handOver; simp
  refine ⟨fun h hl => (State.queued_loadFront _ _).mpr (key.1 h hl), fun h => ?_, fun h => ?_,
    s.handOver_kept f⟩
  · rw [ha]
    exact (key.2 h).imp_left (State.queued_loadFront _ _).mpr
  · have e : framesKept (s.enqueue f) = framesKept s := by
      obtain ⟨x, hx, hf⟩ := h
      unfold State.enqueue
      split
      · rw [if_pos (List.any_eq_true.mpr ⟨x, hx, by simp [hf]⟩)]
      · rfl
    unfold State.handOver
    rw [State.loadFront_framesKept, e]

/-- Handing a frame over raises at most TX_OVERFLOW. -/
theorem State.handOver_within (s : State) (f : BusFrame) {l : List Alarm}
    (h : Alarm.txOverflow ∈ l) : RaisedWithin s.port (s.handOver f).port l := by
  have e : (s.handOver f).port = (s.enqueue f).port := by unfold State.handOver; simp
  rw [e]
  rcases s.enqueue_cases f with ⟨_, e⟩ | ⟨_, _, e⟩ | ⟨_, _, e⟩ | ⟨_, _, e⟩ <;> rw [e]
  · exact .refl _ _
  · exact .refl _ _
  · exact .refl _ _
  · exact s.raise_within h

end Sys2Proof.Machine
end

