-- ==== Sys2Proof/Laws/Bytes.lean ====
section
/-! SUPPORT. The byte order of R193: numbers and their bytes, most significant first, give each other
back. -/

namespace Sys2Proof.Machine

@[simp] theorem length_beBytes (n v : Nat) : (beBytes n v).length = n := by
  induction n with
  | zero => rfl
  | succ n ih => simp [beBytes, ih]

theorem foldl_beNat (bytes : List Byte) (acc : Nat) :
    bytes.foldl (fun acc b => acc * 256 + b.toNat) acc = acc * 256 ^ bytes.length + beNat bytes := by
  induction bytes generalizing acc with
  | nil => simp [beNat]
  | cons b rest ih =>
    unfold beNat
    simp only [List.foldl_cons, List.length_cons]
    rw [ih, ih (0 * 256 + b.toNat)]
    ring

theorem beNat_cons (b : Byte) (rest : List Byte) :
    beNat (b :: rest) = b.toNat * 256 ^ rest.length + beNat rest := by
  unfold beNat
  rw [List.foldl_cons, foldl_beNat]
  simp [beNat]

theorem beNat_append (x y : List Byte) : beNat (x ++ y) = beNat x * 256 ^ y.length + beNat y := by
  unfold beNat
  rw [List.foldl_append, foldl_beNat]
  rfl

/-- The number that bytes spell is below 256 to their number. -/
theorem beNat_lt (bytes : List Byte) : beNat bytes < 256 ^ bytes.length := by
  induction bytes with
  | nil => simp [beNat]
  | cons b rest ih =>
    rw [beNat_cons, List.length_cons, pow_succ]
    have := b.isLt
    nlinarith

/-- The bytes of a number give back its value in their range. -/
theorem beNat_beBytes (n v : Nat) : beNat (beBytes n v) = v % 256 ^ n := by
  induction n with
  | zero => simp [beBytes, beNat, Nat.mod_one]
  | succ n ih =>
    rw [beBytes, beNat_cons, length_beBytes, ih, BitVec.toNat_ofNat]
    rw [show (2 : Nat) ^ 8 = 256 from rfl, pow_succ, Nat.mod_mul]
    ring

/-- Bytes are the bytes of the number they spell. -/
theorem beBytes_beNat (bytes : List Byte) : beBytes bytes.length (beNat bytes) = bytes := by
  induction bytes with
  | nil => rfl
  | cons b rest ih =>
    have hlt := beNat_lt rest
    have hb := b.isLt
    have hpos : 0 < 256 ^ rest.length := by positivity
    have key : ∀ n v k, beBytes n (v + k * 256 ^ n) = beBytes n v := by
      intro n
      induction n with
      | zero => intros; rfl
      | succ n ihn =>
        intro v k
        have e : v + k * 256 ^ (n + 1) = v + (k * 256) * 256 ^ n := by ring
        rw [beBytes, beBytes, e, ihn, Nat.add_mul_div_right _ _ (by positivity)]
        congr 1
        apply BitVec.eq_of_toNat_eq
        simp [BitVec.toNat_ofNat, Nat.add_mul_mod_self_right]
    rw [List.length_cons, beBytes, beNat_cons]
    congr 1
    · rw [Nat.mul_comm, Nat.mul_add_div hpos, Nat.div_eq_of_lt hlt]
      simp
    · rw [Nat.add_comm, key, ih]

@[simp] theorem toNat_byte (v : Nat) : (BitVec.ofNat 8 v).toNat = v % 256 := by
  simp [BitVec.toNat_ofNat]

end Sys2Proof.Machine
end

