-- ==== Sys2Proof/Laws/Memory.lean ====
section
/-! SUPPORT. Job memory: a write is read back, touches no other address, and keeps the canonical form. -/

namespace Sys2Proof.Machine

theorem Memory.read_erase (m : Memory) (a x : Nat) :
    (m.erase a).read x = if x = a then Memory.unlisted else m.read x := by
  induction m with
  | nil => simp [Memory.erase, Memory.read]
  | cons c rest ih =>
    unfold Memory.erase at ih ⊢
    by_cases h : c.1 = a
    · simp only [List.filter_cons, h, bne_self_eq_false, Bool.false_eq_true, if_false, ih,
        Memory.read]
      split <;> simp_all [eq_comm]
    · have h' : (c.1 != a) = true := by simpa using h
      simp only [List.filter_cons, h', if_true, Memory.read, ih]
      split <;> simp_all

theorem Memory.read_insert (a : Nat) (b : Byte) (m : Memory) (x : Nat) (h : ∀ c ∈ m, c.1 ≠ a) :
    (Memory.insert a b m).read x = if x = a then b else m.read x := by
  induction m with
  | nil => simp [Memory.insert, Memory.read, eq_comm]
  | cons c rest ih =>
    have hc : c.1 ≠ a := h c (by simp)
    have ih := ih fun d hd => h d (by simp [hd])
    unfold Memory.insert
    split
    · simp [Memory.read, eq_comm]
    · simp only [Memory.read, ih]
      split <;> simp_all

/-- What a byte of memory reads as after a write. -/
@[simp] theorem Memory.read_write (m : Memory) (a : Nat) (b : Byte) (x : Nat) :
    (m.write a b).read x = if x = a then b else m.read x := by
  unfold Memory.write
  split
  · rename_i h
    rw [Memory.read_erase, h]
  · rw [Memory.read_insert, Memory.read_erase]
    · split <;> simp_all
    · intro c hc
      simpa using (List.mem_filter.mp hc).2

theorem Memory.wf_iff (m : Memory) :
    m.wf = true ↔ m.Pairwise (fun c d => c.1 < d.1) ∧
      ∀ c ∈ m, c.1 < 4096 ∧ c.2 ≠ Memory.unlisted := by
  simp [Memory.wf, List.all_eq_true]

theorem Memory.wf_erase {m : Memory} (h : m.wf = true) (a : Nat) : (m.erase a).wf = true := by
  rw [Memory.wf_iff] at h ⊢
  exact ⟨h.1.filter _, fun c hc => h.2 c (List.mem_filter.mp hc).1⟩

theorem Memory.mem_insert {a : Nat} {b : Byte} {m : Memory} {c : Host.Cell}
    (h : c ∈ Memory.insert a b m) : c = (a, b) ∨ c ∈ m := by
  induction m with
  | nil => simpa [Memory.insert] using h
  | cons d rest ih =>
    unfold Memory.insert at h
    split at h
    · simpa using h
    · rcases List.mem_cons.mp h with rfl | h
      · exact .inr (by simp)
      · rcases ih h with h | h
        · exact .inl h
        · exact .inr (by simp [h])

theorem Memory.wf_insert {m : Memory} {a : Nat} {b : Byte} (h : m.wf = true) (ha : a < 4096)
    (hb : b ≠ Memory.unlisted) (hn : ∀ c ∈ m, c.1 ≠ a) : (Memory.insert a b m).wf = true := by
  rw [Memory.wf_iff] at h ⊢
  refine ⟨?_, fun c hc => ?_⟩
  · induction m with
    | nil => simp [Memory.insert]
    | cons d rest ih =>
      obtain ⟨hp, hq⟩ := h
      have hp := List.pairwise_cons.mp hp
      unfold Memory.insert
      split
      · rename_i hlt
        refine List.pairwise_cons.mpr ⟨fun c hc => ?_, List.pairwise_cons.mpr hp⟩
        rcases List.mem_cons.mp hc with rfl | hc
        · exact hlt
        · exact Nat.lt_trans hlt (hp.1 c hc)
      · rename_i hge
        have hne := hn d (by simp)
        refine List.pairwise_cons.mpr ⟨fun c hc => ?_, ?_⟩
        · rcases Memory.mem_insert hc with rfl | hc
          · simp only; omega
          · exact hp.1 c hc
        · exact ih ⟨hp.2, fun c hc => hq c (by simp [hc])⟩ fun c hc => hn c (by simp [hc])
  · rcases Memory.mem_insert hc with rfl | hc
    · exact ⟨ha, hb⟩
    · exact h.2 c hc

/-- A write keeps the canonical form. -/
theorem Memory.wf_write {m : Memory} (h : m.wf = true) {a : Nat} (ha : a < 4096) (b : Byte) :
    (m.write a b).wf = true := by
  unfold Memory.write
  split
  · exact Memory.wf_erase h a
  · rename_i hb
    exact Memory.wf_insert (Memory.wf_erase h a) ha hb fun c hc => by
      simpa using (List.mem_filter.mp hc).2

/-- A write of any number of bytes to job memory keeps the canonical form. -/
theorem Memory.wf_jobWrite {m : Memory} (h : m.wf = true) (a : Nat) (bytes : List Byte) :
    (m.jobWrite a bytes).wf = true := by
  induction bytes generalizing m a with
  | nil => exact h
  | cons b rest ih => exact ih (Memory.wf_write h (Nat.mod_lt _ (by decide)) b) (a + 1)

/-- A write of bytes leaves every address it does not reach. -/
theorem Memory.read_jobWrite_of_ne (m : Memory) (a : Nat) (bytes : List Byte) (x : Nat)
    (h : ∀ k < bytes.length, x ≠ (a + k) % 4096) : (m.jobWrite a bytes).read x = m.read x := by
  induction bytes generalizing m a with
  | nil => rfl
  | cons b rest ih =>
    have h0 : x ≠ a % 4096 := by simpa using h 0 (by simp)
    unfold Memory.jobWrite
    rw [ih (m.write (a % 4096) b) (a + 1) fun k hk => by
      have := h (k + 1) (by simpa using hk)
      rwa [show a + 1 + k = a + (k + 1) by omega], Memory.read_write, if_neg h0]

/-- The bytes of job memory are read in order from their addresses. -/
theorem Memory.jobBytes_eq_map (m : Memory) (a n : Nat) :
    m.jobBytes a n = (List.range n).map fun k => m.read ((a + k) % 4096) := by
  induction n generalizing a with
  | zero => rfl
  | succ n ih =>
    rw [Memory.jobBytes, ih, List.range_succ_eq_map, List.map_cons, List.map_map]
    refine congrArg₂ _ rfl (List.map_congr_left fun k _ => ?_)
    simp [Function.comp, show a + 1 + k = a + (k + 1) by omega]

/-- The empty memory is in canonical form. -/
theorem Memory.wf_nil : Memory.wf [] = true := by decide

end Sys2Proof.Machine
end

