-- ==== Sys2Proof/Laws/Neighbours.lean ====
section
/-! SUPPORT. What the Bus Interface and the Sharing Unit do after a posting or a change of mode (R123,
R154): one lemma for the pair, which later proofs cite instead of unfolding either. -/

namespace Sys2Proof.Machine

/-- An alarm that is up stays up. -/
theorem RaisedWithin.alarm {s t : State} {l : List Alarm} (h : RaisedWithin s.port t.port l)
    {a : Alarm} (ha : s.alarm a = true) : t.alarm a = true := by
  have hb : ∀ u : State, u.alarm a = true ↔ u.port.alarms.getLsbD a.bit = true := fun u => by
    have hlt : a.bit < 32 := by cases a <;> decide
    have hw : a.word = BitVec.twoPow 32 a.bit := by cases a <;> decide
    unfold State.alarm
    rw [hw, bne_iff_ne, ne_eq, ← Bool.not_eq_false, not_iff_not]
    constructor
    · intro h0
      have := congrArg (fun x : BitVec 32 => x.getLsbD a.bit) h0
      simpa [BitVec.getLsbD_twoPow, hlt] using this
    · intro h0
      ext i hi
      by_cases e : a.bit = i
      · subst e; simp [BitVec.getElem_eq_testBit_toNat, BitVec.getLsbD] at h0 ⊢; simp [h0]
      · simp [BitVec.getElem_twoPow, Ne.symm e]
  rw [hb] at ha ⊢
  have hlt : a.bit < 32 := by cases a <;> decide
  rcases h.2 a.bit hlt with e | ⟨e, _⟩
  · rw [e]; exact ha
  · exact e

/-! ## STANDING -/

/-- SETTLED handed over again leaves every frame of the queue in it. -/
theorem State.queued_resendSettled (s : State) (g : BusFrame) (h : Queued s g) :
    Queued s.resendSettled g := by
  unfold State.resendSettled
  generalize s.share.outRecord = l
  induction l generalizing s with
  | nil => exact h
  | cons x l ih => exact ih _ (s.queued_enqueue_of _ _ h)

theorem State.enqueue_within (s : State) (f : BusFrame) {l : List Alarm}
    (h : Alarm.txOverflow ∈ l) : RaisedWithin s.port (s.enqueue f).port l := by
  rcases s.enqueue_cases f with ⟨_, e⟩ | ⟨_, _, e⟩ | ⟨_, _, e⟩ | ⟨_, _, e⟩ <;> rw [e]
  · exact .refl _ _
  · exact .refl _ _
  · exact .refl _ _
  · exact s.raise_within h

theorem State.resendSettled_within (s : State) {l : List Alarm} (h : Alarm.txOverflow ∈ l) :
    RaisedWithin s.port s.resendSettled.port l := by
  unfold State.resendSettled
  generalize s.share.outRecord = r
  induction r generalizing s with
  | nil => exact .refl _ _
  | cons x r ih => exact (s.enqueue_within _ h).trans (ih _)

/-- The STANDING put into the queue: it stands there with its figures kept, or the queue was full. -/
theorem State.placeStanding_cases (s : State) :
    (Queued s.placeStanding s.formStanding ∧ s.placeStanding.port = s.port ∧
      s.placeStanding.bus.announcedSurplus = min s.surplus 16777215 ∧
      s.placeStanding.bus.announcedFlags = s.standingFlags) ∨
    (s.placeStanding = s.raise .txOverflow) := by
  unfold State.placeStanding
  dsimp only
  split
  · rename_i h
    obtain ⟨e, he, hw⟩ := List.any_eq_true.mp h
    refine .inl ⟨⟨⟨s.formStanding, false⟩, ?_, rfl⟩, rfl, rfl, rfl⟩
    simp only [State.modBus_bus]
    exact List.mem_map.mpr ⟨e, he, by rw [if_pos hw]⟩
  · split
    · exact .inl ⟨⟨⟨s.formStanding, false⟩, by simpa using mem_txInsert.mpr (.inl rfl), rfl⟩,
        rfl, rfl, rfl⟩
    · exact .inr rfl

theorem State.placeStanding_within (s : State) {l : List Alarm} (h : Alarm.txOverflow ∈ l) :
    RaisedWithin s.port s.placeStanding.port l := by
  rcases s.placeStanding_cases with ⟨_, e, _⟩ | e
  · rw [e]; exact .refl _ _
  · rw [e]; exact s.raise_within h

theorem State.handStanding_within (s : State) {l : List Alarm} (h : Alarm.txOverflow ∈ l) :
    RaisedWithin s.port s.handStanding.port l := by
  unfold State.handStanding
  split
  · have h1 := s.placeStanding_within h
    have h2 := (s.placeStanding.modBus fun b => { b with standingTimer := some s.intervalMs }
      ).resendSettled_within h
    simpa using h1.trans h2
  · exact .refl _ _

theorem State.evalStanding_within (s : State) {l : List Alarm} (h : Alarm.txOverflow ∈ l) :
    RaisedWithin s.port s.evalStanding.port l := by
  unfold State.evalStanding
  split
  · exact s.handStanding_within h
  · exact .refl _ _

@[simp] theorem State.resendSettled_announced (s : State) :
    s.resendSettled.bus.announcedSurplus = s.bus.announcedSurplus ∧
    s.resendSettled.bus.announcedFlags = s.bus.announcedFlags := by simp

/-- A STANDING handed to the queue while the station sends: it stands there with its figures kept, or
TX_OVERFLOW is up. -/
theorem State.handStanding_queued (s : State) (h : s.busSends = true) :
    (Queued s.handStanding s.formStanding ∧
      s.handStanding.bus.announcedSurplus = min s.surplus 16777215 ∧
      s.handStanding.bus.announcedFlags = s.standingFlags) ∨
    s.handStanding.alarm .txOverflow = true := by
  unfold State.handStanding
  rw [if_pos h]
  rcases s.placeStanding_cases with ⟨q, _, e1, e2⟩ | e
  · refine .inl ⟨(State.queued_loadFront _ _).mpr (State.queued_resendSettled _ _ ?_), ?_, ?_⟩
    · simpa [Queued] using q
    · simpa using e1
    · simpa using e2
  · refine .inr ?_
    have h1 : s.placeStanding.alarm .txOverflow = true := by rw [e]; simp
    have h2 := (s.placeStanding.modBus fun b => { b with standingTimer := some s.intervalMs }
      ).resendSettled_within (l := [.txOverflow]) (by simp)
    have h3 := RaisedWithin.alarm (s := s.placeStanding) (a := .txOverflow) (by simpa using h2) h1
    simpa [State.alarm] using h3

/-! ## The queue kept -/

theorem State.resendSettled_kept (s : State) : QueueKept s s.resendSettled := by
  unfold State.resendSettled
  generalize s.share.outRecord = l
  induction l generalizing s with
  | nil => exact .refl _
  | cons x l ih => exact (s.enqueue_kept _).trans (ih _)

/-- A waiting STANDING is the only frame that a new one replaces (R121). -/
theorem State.placeStanding_kept (s : State) : QueueKept s s.placeStanding := by
  have hw : ∀ e : TxEntry, e.waitingStanding = true → e.loaded = false ∧ e.frame.code = 48 := by
    intro e h
    unfold TxEntry.waitingStanding at h
    rcases e with ⟨f, l⟩
    cases f <;> simp_all [BusFrame.code]
  unfold State.placeStanding
  dsimp only
  split
  · refine ⟨?_, fun e he hl => ?_⟩
    · have e : ∀ l : List TxEntry,
          ((l.map fun e => if e.waitingStanding then (⟨s.formStanding, false⟩ : TxEntry) else e).map
            (·.frame)).filter (fun f => f.code != 48) = (l.map (·.frame)).filter fun f => f.code != 48 := by
        intro l
        induction l with
        | nil => rfl
        | cons d rest ih =>
          simp only [List.map_cons, List.filter_cons, ih]
          by_cases h : d.waitingStanding = true
          · have hf : s.formStanding.code = 48 := rfl
            simp [h, (hw d h).2, hf]
          · simp [h]
      unfold framesKept
      simp only [State.modBus_bus]
      rw [e]
    · simp only [State.modBus_bus]
      refine List.mem_map.mpr ⟨e, he, if_neg fun h => ?_⟩
      rw [(hw e h).1] at hl
      exact absurd hl (by simp)
  · split
    · exact .of_sublist (by simpa using sublist_txInsert _ s.bus.tx)
    · exact .of_tx (by simp)

theorem State.handStanding_kept (s : State) : QueueKept s s.handStanding := by
  unfold State.handStanding
  split
  · refine (s.placeStanding_kept.trans ?_).trans
      ((State.resendSettled_kept _).trans (State.loadFront_kept _))
    exact .of_tx rfl
  · exact .refl _

theorem State.evalStanding_kept (s : State) : QueueKept s s.evalStanding := by
  unfold State.evalStanding
  split
  · exact s.handStanding_kept
  · exact .refl _

theorem State.evalWant_kept (s : State) : QueueKept s s.evalWant := by
  unfold State.evalWant
  split
  · split
    · unfold State.openWant
      refine .trans ?_ (State.evalStanding_kept _)
      exact State.handOver_kept (s.modShare _) _
    · split
      · exact .of_tx (by simp)
      · exact .refl _
  · exact .refl _

/-! ## Wants -/

/-- What the evaluation of R154 makes of the Sharing Unit. -/
theorem State.evalWant_share (s : State) :
    s.evalWant.share =
      if s.wantConditions then
        if 100 ≤ s.wantAmount then
          { s.share with
            want := some ⟨nextNumber s.share.lastWant, s.wantAmount, s.share.request.isSome, none⟩
            lastWant := nextNumber s.share.lastWant, request := none, wantWindow := some 1000 }
        else { s.share with request := none }
      else s.share := by
  unfold State.evalWant
  split
  · split
    · unfold State.openWant; simp
    · split
      · simp
      · rename_i h
        have hr : s.share.request = none := by simpa using h
        simp [← hr]
  · rfl

/-- The evaluation reads the accounts, the Sharing Unit, the bus state and the settings only. -/
theorem State.wantConditions_congr {s t : State} (ha : s.acct = t.acct) (hs : s.share = t.share)
    (hb : s.bus.state = t.bus.state) (hp : s.port.settings = t.port.settings) :
    s.wantConditions = t.wantConditions ∧ s.wantAmount = t.wantAmount := by
  unfold State.wantConditions State.wantAmount State.room State.ceiling State.target State.lowWater
  rw [ha, hs, hb, hp]
  exact ⟨rfl, rfl⟩

theorem State.evalWant_share_congr {s t : State} (ha : s.acct = t.acct) (hs : s.share = t.share)
    (hb : s.bus.state = t.bus.state) (hp : s.port.settings = t.port.settings) :
    s.evalWant.share = t.evalWant.share := by
  obtain ⟨h1, h2⟩ := State.wantConditions_congr ha hs hb hp
  rw [State.evalWant_share, State.evalWant_share, h1, h2, hs]

theorem State.openWant_within (s : State) {l : List Alarm} (h : Alarm.txOverflow ∈ l) :
    RaisedWithin s.port s.openWant.port l := by
  unfold State.openWant
  exact (State.handOver_within (s.modShare _) _ h).trans (State.evalStanding_within _ h)

theorem State.evalWant_within (s : State) {l : List Alarm} (h : Alarm.txOverflow ∈ l)
    (hw : Alarm.wantFailed ∈ l) : RaisedWithin s.port s.evalWant.port l := by
  unfold State.evalWant
  split
  · split
    · exact s.openWant_within h
    · split
      · exact State.raise_within (s.modShare fun u => { u with request := none }) hw
      · exact .refl _ _
  · exact .refl _ _

theorem State.afterAvail_within (s : State) {l : List Alarm} (h : Alarm.txOverflow ∈ l)
    (hw : Alarm.wantFailed ∈ l) : RaisedWithin s.port s.afterAvail.port l :=
  (s.evalStanding_within h).trans (s.evalStanding.evalWant_within h hw)

/-! ## Both -/

@[simp] theorem State.standingFlags_of {s t : State} (ha : s.acct = t.acct) (hs : s.share = t.share) :
    s.standingFlags = t.standingFlags := by
  unfold State.standingFlags; rw [ha, hs]

/-- Only the queue and what a STANDING sets move in the Bus Interface, and nothing while the station does
not send. -/
theorem State.evalStanding_silent (s : State) (h : s.busSends = false) : s.evalStanding = s := by
  unfold State.evalStanding; simp [h]

theorem State.wantConditions_sends (s : State) (h : s.wantConditions = true) :
    s.busSends = true := by
  unfold State.wantConditions at h
  unfold State.busSends
  simp only [Bool.and_eq_true, Bool.or_eq_true, beq_iff_eq] at h ⊢
  exact .inr h.1.1.1.1.2

/-- The evaluation of R154, on a state that differs from m in the Bus Interface's queue and STANDING
alone. -/
theorem State.evalWant_wantsEvaluated (m : State) : WantsEvaluated m m.evalWant := by
  refine ⟨rfl, m.evalWant_kept, ?_, fun h => ?_⟩
  · have h := m.evalWant_frame
    cases hb : m.evalWant.bus
    cases hm : m.bus
    simp_all
  · unfold State.evalWant
    split
    · rename_i hc
      exact absurd (m.wantConditions_sends hc) (by simp [h])
    · rfl

theorem State.afterAvail_wantsEvaluated (m : State) : WantsEvaluated m m.afterAvail := by
  refine ⟨?_, m.evalStanding_kept.trans (State.evalWant_kept _), ?_, fun h => ?_⟩
  · exact State.evalWant_share_congr (by simp) (by simp) (by simp) (by simp)
  · have h := m.afterAvail_frame
    cases hb : m.afterAvail.bus
    cases hm : m.bus
    simp_all
  · unfold State.afterAvail
    rw [m.evalStanding_silent h]
    exact (m.evalWant_wantsEvaluated).2.2.2 h

/-- The STANDING formed now reads the accounts, whether a want is open, the day and the settings. -/
theorem State.formStanding_congr {s t : State} (ha : s.acct = t.acct)
    (hs : s.share.want.isSome = t.share.want.isSome) (hr : s.rates = t.rates)
    (hp : s.port.settings = t.port.settings) : s.formStanding = t.formStanding := by
  unfold State.formStanding State.surplus State.standingFlags
  rw [ha, hs, hr, hp]

theorem State.busSends_congr {s t : State} (h : s.bus.state = t.bus.state) :
    s.busSends = t.busSends := by
  unfold State.busSends; rw [h]

/-- A STANDING evaluated while what was announced has changed (R123). -/
theorem State.evalStanding_queued (s : State) (h : s.busSends = true)
    (hc : s.standingChanged = true) :
    (Queued s.evalStanding s.formStanding ∧
      s.evalStanding.bus.announcedFlags = s.standingFlags) ∨
    s.evalStanding.alarm .txOverflow = true := by
  have e : s.evalStanding = s.handStanding := by unfold State.evalStanding; simp [h, hc]
  rw [e]
  exact (s.handStanding_queued h).imp_left fun x => ⟨x.1, x.2.2⟩

/-- What the neighbours do after a posting that changes AVAIL or a change of mode (R123, R154, R173). -/
theorem State.afterAvail_neighboursActed (m : State) : NeighboursActed m m.afterAvail := by
  refine ⟨m.afterAvail_wantsEvaluated, fun h hc => ?_⟩
  have hover : ∀ u : State, u.alarm .txOverflow = true → u.evalWant.alarm .txOverflow = true :=
    fun u hu => (u.evalWant_within (l := [.txOverflow, .wantFailed]) (by simp) (by simp)).alarm hu
  rcases m.evalStanding_queued h hc with ⟨q, hf⟩ | ho
  · unfold State.afterAvail
    unfold State.evalWant
    split
    · rename_i hw
      have hno : m.share.want = none := by
        have : m.evalStanding.share.want = none := by
          unfold State.wantConditions at hw
          simp only [Bool.and_eq_true, Option.isNone_iff_eq_none] at hw
          exact hw.1.1.1.2
        simpa using this
      split
      · unfold State.openWant
        dsimp only
        generalize hu : State.handOver _ _ = u
        have hub : u.busSends = true := by
          rw [← hu, ← h]; exact State.busSends_congr (by simp)
        have huc : u.standingChanged = true := by
          have h1 : u.bus.announcedFlags.wanting = false := by
            rw [← hu]; simp [hf, State.standingFlags, hno]
          have h2 : u.standingFlags.wanting = true := by
            rw [← hu]; simp [State.standingFlags]
          unfold State.standingChanged
          have : u.standingFlags ≠ u.bus.announcedFlags := fun e => by
            rw [e, h1] at h2; exact absurd h2 (by simp)
          simp [this]
        rcases u.evalStanding_queued hub huc with ⟨q', _⟩ | o
        · refine .inl ?_
          rwa [State.formStanding_congr (t := u) (by simp) (by simp) (by simp) (by simp)]
        · exact .inr o
      · split
        · refine .inl ?_
          rw [State.formStanding_congr (t := m) (by simp) (by simp) (by simp) (by simp)]
          simpa [Queued] using q
        · refine .inl ?_
          rwa [State.formStanding_congr (t := m) (by simp) (by simp) (by simp) (by simp)]
    · refine .inl ?_
      rwa [State.formStanding_congr (t := m) (by simp) (by simp) (by simp) (by simp)]
  · exact .inr (hover _ ho)

end Sys2Proof.Machine
end

