-- ==== Sys2Proof/Laws/Port.lean ====
section
/-! SUPPORT. A command frame (R180 to R183): what runCommand and runRead answer in each case, said once,
so that a meaning's proof is about its body alone. -/

namespace Sys2Proof.Machine

/-- A command that a check of R181 stops. -/
theorem State.runCommand_refused (s : State) {row : CommandRow} {p : List Byte} {st : Status}
    (body : State → State × Response) (h : s.portCheck row p = some st) :
    s.runCommand row p body = done (s.shiftOut.answer (refusal st)) := by
  unfold State.runCommand; rw [h]

/-- A command whose checks pass: its body's state, answered; a snapshot ends when the answer is OK. -/
theorem State.runCommand_done (s : State) {row : CommandRow} {p : List Byte}
    (body : State → State × Response) (h : s.portCheck row p = none) :
    s.runCommand row p body =
      done (((body s.shiftOut).1.endSnapshot (body s.shiftOut).2).answer (body s.shiftOut).2) := by
  unfold State.runCommand; rw [h]

theorem State.runRead_refused (s : State) {row : CommandRow} {p : List Byte} {st : Status}
    (read : PartsOf) (answer : List Byte) (h : s.portCheck row p = some st) :
    s.runRead row p read answer = done (s.shiftOut.answer (refusal st)) := by
  unfold State.runRead; rw [h]

theorem State.runRead_done (s : State) {row : CommandRow} {p : List Byte} (read : PartsOf)
    (answer : List Byte) (h : s.portCheck row p = none) :
    s.runRead row p read answer = done (s.shiftOut.readParts read (field p 0 1) answer) := by
  unfold State.runRead; rw [h]

/-- When the checks of R181 pass. -/
theorem State.portCheck_none {s : State} {row : CommandRow} {p : List Byte} :
    s.portCheck row p = none ↔
      (row.minLen ≤ p.length ∧ p.length ≤ row.maxLen) ∧
      (s.configured = true ∨ row.before = true) ∧ (row.prot = true → s.port.protection = false) := by
  unfold State.portCheck
  by_cases hl : p.length < row.minLen ∨ row.maxLen < p.length
  · rw [if_pos hl]; constructor
    · simp
    · rintro ⟨h, _⟩; omega
  · rw [if_neg hl]
    have hl : row.minLen ≤ p.length ∧ p.length ≤ row.maxLen := by omega
    cases hc : s.configured <;> cases hb : row.before <;> cases hp : row.prot <;>
      cases hq : s.port.protection <;> simp [hl]

/-- A frame that a check stops is answered, and nothing else happens. -/
theorem State.runCommand_onlyAnswered (s : State) {row : CommandRow} {p : List Byte} {st : Status}
    (body : State → State × Response) (h : s.portCheck row p = some st) :
    ∃ t, s.runCommand row p body = .next t ∧ Refused s t st :=
  ⟨_, s.runCommand_refused body h, rfl⟩

/-- A command whose body refuses leaves all but the answer as it was. -/
theorem State.runCommand_bodyRefused (s : State) {row : CommandRow} {p : List Byte} {st : Status}
    (body : State → State × Response) (h : s.portCheck row p = none)
    (hb : body s.shiftOut = (s.shiftOut, refusal st)) (hs : st ≠ .ok) :
    ∃ t, s.runCommand row p body = .next t ∧ Refused s t st :=
  ⟨_, s.runCommand_done body h, by
    rw [hb]; unfold State.endSnapshot refusal; rw [if_neg hs]; rfl⟩

/-- A body that only reads. -/
theorem State.runCommand_onlyRead (s : State) {row : CommandRow} {p : List Byte} {bytes : List Byte}
    (body : State → State × Response) (h : s.portCheck row p = none)
    (hb : body s.shiftOut = (s.shiftOut, ⟨.ok, bytes⟩)) :
    ∃ t, s.runCommand row p body = .next t ∧ OnlyRead s t bytes :=
  ⟨_, s.runCommand_done body h, by rw [hb]; rfl⟩

/-- A step with a command at the front of the queue. -/
theorem step_cons {s : State} {c : Instr} {rest : List Instr} (h : s.pending = c :: rest) :
    step s = exec c { s with pending := rest } := by
  unfold step; rw [h]

/-- A step that the time base carries out. -/
theorem step_due {s : State} {c : Instr} (h : s.pending = []) (hc : s.dueEvent = some c) :
    step s = exec c s := by
  unfold step; rw [h, hc]

/-- A step in which 1 ms passes. -/
theorem step_tick {s : State} (h : s.pending = []) (hc : s.dueEvent = none) :
    step s = .next s.tick.driveOutputs := by
  unfold step; rw [h, hc]; rfl

end Sys2Proof.Machine
end

