-- ==== Sys2Proof/Laws/Postings.lean ====
section
/-! SUPPORT. The postings (section 1.3): what each keeps, under the bounds on its amount that its caller
has checked. -/

namespace Sys2Proof.Machine

/-- A posting moves the registers, and in the port at most the alarm word. -/
theorem State.post_acct (s : State) (p : Posting) : (s.post p).acct = s.acct.post p := by
  unfold State.post; simp

/-- The amount a posting takes out of a register is there. -/
def Posting.covered (acc : Accounts) : Posting → Prop
  | .authorise v => v ≤ acc.avail
  | .pledge a => a ≤ acc.avail
  | .pledgeReturned a => a ≤ acc.escrow
  | .pledgeConcluded a => a ≤ acc.escrow ∧ a ≤ acc.control
  | .settlement a | .discarded a | .voided a => a ≤ acc.incoming
  | .imprintDone | .failedClean | .uncertain | .takePledge _ | .refill _ => True

/-- The first law is kept by every posting (R2). -/
theorem Accounts.post_identity {acc : Accounts} {p : Posting} (h : p.covered acc)
    (e : acc.avail + acc.held + acc.escrow + acc.used = acc.control) :
    (acc.post p).avail + (acc.post p).held + (acc.post p).escrow + (acc.post p).used =
      (acc.post p).control := by
  cases p <;> simp only [Accounts.post, Posting.covered] at h ⊢ <;> omega

/-- What a posting adds to the sum that the second law bounds (R3): only the intakes raise it. -/
theorem Accounts.post_ceilingSum {acc : Accounts} {p : Posting} (h : p.covered acc) :
    (acc.post p).ceilingSum ≤ acc.ceilingSum +
      match p with
      | .takePledge a | .refill a => a
      | _ => 0 := by
  cases p <;> simp only [Accounts.post, Posting.covered, Accounts.ceilingSum] at h ⊢ <;> omega

/-- USED and SPOILED never fall (R4). -/
theorem Accounts.post_mono (acc : Accounts) (p : Posting) :
    acc.used ≤ (acc.post p).used ∧ acc.spoiled ≤ (acc.post p).spoiled := by
  cases p <;> simp [Accounts.post]

/-- SPOILED stays within USED (R4). -/
theorem Accounts.post_spoiled {acc : Accounts} (p : Posting) (h : acc.spoiled ≤ acc.used) :
    (acc.post p).spoiled ≤ (acc.post p).used := by
  cases p <;> simp only [Accounts.post] <;> omega

/-- What every posting but the authorisation leaves of the imprint number, and all leave of the mode. -/
@[simp] theorem Accounts.post_frame (acc : Accounts) (p : Posting) :
    (acc.post p).mode = acc.mode ∧ (acc.post p).exhaustedMark = acc.exhaustedMark ∧
    (acc.post p).restartSpoil = acc.restartSpoil := by
  cases p <;> simp [Accounts.post]

end Sys2Proof.Machine
end

