-- ==== Sys2Proof/Laws/Runs.lean ====
section
/-! SUPPORT. The run id counter (R77): with fewer than 255 runs in the queue the id a new run takes is
held by none of them. -/

namespace Sys2Proof.Machine

theorem nextRunId_iterate (n : Nat) {j : Nat} (hj : j ≤ 254) :
    nextRunId^[j] n =
      if n < 255 then (if n + j ≤ 255 then n + j else n + j - 255) else if j = 0 then n else j := by
  induction j with
  | zero => simp; omega
  | succ j ih =>
    rw [Function.iterate_succ_apply', ih (by omega)]
    clear ih
    unfold nextRunId
    by_cases h1 : n < 255
    · rw [if_pos h1, if_pos h1]; split_ifs <;> omega
    · rw [if_neg h1, if_neg h1, if_neg (Nat.succ_ne_zero j)]; split_ifs <;> omega

theorem nextRunId_iterate_inj (n : Nat) {i j : Nat} (hi : i ≤ 254) (hj : j ≤ 254)
    (h : nextRunId^[i] n = nextRunId^[j] n) : i = j := by
  rw [nextRunId_iterate n hi, nextRunId_iterate n hj] at h
  split_ifs at h <;> omega

theorem iterate_mem_of_freeRunId_mem {ids : List Nat} {k n : Nat} (h : freeRunId ids k n ∈ ids) :
    ∀ j ≤ k, nextRunId^[j] n ∈ ids := by
  induction k generalizing n with
  | zero => intro j hj; obtain rfl : j = 0 := by omega
            exact h
  | succ k ih =>
    unfold freeRunId at h
    split at h
    · rename_i hn
      intro j hj
      cases j with
      | zero => exact hn
      | succ j => exact ih h j (by omega)
    · rename_i hn; exact absurd h hn

/-- The id found is free. -/
theorem freeRunId_not_mem {ids : List Nat} {n : Nat} (h : ids.length ≤ 254) :
    freeRunId ids ids.length n ∉ ids := by
  intro hm
  have hall := iterate_mem_of_freeRunId_mem hm
  have hnd : ((List.range (ids.length + 1)).map fun j => nextRunId^[j] n).Nodup := by
    refine List.Nodup.map_on (fun i hi j hj e => ?_) List.nodup_range
    exact nextRunId_iterate_inj n (by have := List.mem_range.mp hi; omega)
      (by have := List.mem_range.mp hj; omega) e
  have hsub : ((List.range (ids.length + 1)).map fun j => nextRunId^[j] n) ⊆ ids := by
    intro x hx
    obtain ⟨j, hj, rfl⟩ := List.mem_map.mp hx
    exact hall j (by have := List.mem_range.mp hj; omega)
  have := hnd.length_le_of_subset hsub
  simp at this

/-- The id that the next accepted run takes is held by no run of the queue (R77). -/
theorem State.newRunId_free (s : State) (h : s.runs.queue.length ≤ 254) :
    ∀ q ∈ s.runs.queue, q.id ≠ s.newRunId := by
  intro q hq e
  have := freeRunId_not_mem (ids := s.runs.queue.map (·.id)) (n := s.runs.nextId) (by simpa using h)
  rw [List.length_map] at this
  exact this (List.mem_map.mpr ⟨q, hq, e⟩)

/-- While no run holds the counter's id, that is the id (R77). -/
theorem State.newRunId_next (s : State) (h : ∀ q ∈ s.runs.queue, q.id ≠ s.runs.nextId) :
    s.newRunId = s.runs.nextId := by
  unfold State.newRunId
  have hn : s.runs.nextId ∉ s.runs.queue.map (·.id) := by
    rintro hm
    obtain ⟨q, hq, e⟩ := List.mem_map.mp hm
    exact h q hq e
  cases hl : s.runs.queue.length with
  | zero => rfl
  | succ k => unfold freeRunId; rw [if_neg hn]

end Sys2Proof.Machine
end

