-- ==== Sys2Proof/Laws/Transaction.lean ====
section
/-! SUPPORT. Transactions of the command port (R180): a byte's bits spell it, a whole frame is the row of
its code, and what is shifted out has the length asked. -/

namespace Sys2Proof.Machine

@[simp] theorem bitsByte_byteBits (b : Byte) : bitsByte (byteBits b) = b := by
  revert b; decide

/-- One byte more at the front of the bits is one byte more at the front of the bytes. -/
@[simp] theorem wholeBytes_byteBits_append (b : Byte) (bits : List Bool) :
    wholeBytes (byteBits b ++ bits) = b :: wholeBytes bits := by
  conv => rhs; rw [← bitsByte_byteBits b]
  rfl

/-- The bytes of a whole frame with fill behind it: the command its code names, or a bad command. -/
theorem transactionRow_frame (code : Byte) (p fill : List Byte) (h : p.length ≤ 60) :
    transactionRow (code :: BitVec.ofNat 8 p.length :: (p ++ fill)) =
      (commandOf code.toNat p).getD (.badCommand code p) := by
  have hl : (BitVec.ofNat 8 p.length).toNat = p.length := by
    rw [BitVec.toNat_ofNat]; omega
  simp only [transactionRow, tooShort, hl, List.length_append, List.take_left]
  rw [if_neg]
  simp
  omega

@[simp] theorem length_response_bytes (r : Response) (n : Nat) :
    ((ShiftOut.response r).bytes n).length = n := by
  simp [ShiftOut.bytes]

@[simp] theorem length_busy_bytes (n : Nat) : (ShiftOut.busy.bytes n).length = n := by
  simp [ShiftOut.bytes]

@[simp] theorem clockIn_pending (s : State) (bits : List Bool) :
    (s.clockIn bits).pending = s.pending ++ [transactionRow (wholeBytes bits)] := rfl

end Sys2Proof.Machine
end

