-- ==== Sys2Proof/Tests/Slice0.lean ====
section
/-! SUPPORT. The model's own tests: the refusals of the well-formedness check, a witness for the
hypotheses of every statement that has some, and one step of each family on a small state. -/

namespace Sys2Proof.Tests

open Sys2Proof Sys2Proof.Machine

/-! ## Small states -/

/-- A configuration. -/
def cfg : Settings := ⟨7, 125, 200000, 500, 1500, 100, 5000, 5, 30, 4, 4⟩

/-- The payload of that configuration. -/
def cfgBytes : List Byte :=
  [7, 125, 0, 3, 13, 64, 0, 0, 1, 244, 0, 0, 5, 220, 0, 0, 0, 100, 0, 19, 136, 5, 30, 4, 4]

/-- A station that is configured, ACTIVE on day 300 with credit, on the bus, slot 0 OPEN on grant 1. -/
def base : State :=
  { State.reset with
    acct := { State.reset.acct with avail := 10000, control := 10000, mode := .active }
    grants := { State.reset.grants with
      records := State.reset.grants.records.setIfInBounds 0
        ⟨true, 44, .capped, false, 50000, 3, true, 0, 0, 0, 0⟩ }
    slots := State.reset.slots.setIfInBounds 0
      ⟨.opened, 1, 0, .capped, 50000, 0, 0, 0, 0, 0, 0, false, false, none, .none, false⟩
    rates := { State.reset.rates with day := 300 }
    refill := { State.reset.refill with lastContact := 300 }
    bus := ⟨.active, true, [], some 5000, 9900, .clear, 0, []⟩
    port := { State.reset.port with settings := some cfg, protection := false } }

/-- The same with protection ON. -/
def guarded : State := base.modPort fun p => { p with protection := true }

/-- A run of two imprints at 100. -/
def run1 : Run :=
  ⟨1, .command, 0, 255, some 100, 20, some 2, false, false, [], 100, 0, 0, 0, [], .printing, none⟩

/-- A station whose head run has an imprint ENABLED, the run changed as given. -/
def printing (r : Run) : State :=
  ({ base with
    acct := { base.acct with avail := 9900, held := 100 }
    runs := { base.runs with
      queue := [r], nextId := 2, inFlight := some ⟨1, 1, 100, .enabled⟩, mechTimer := some 3000 }
    outs := ⟨true, false, false, false, .recessive, [false], [false]⟩ }).modSlot 0 fun sl =>
      { sl with printDelta := 100, imprints := 1, run := some 1 }

/-- A station whose head run is JAMMED. -/
def jammed : State :=
  { base with runs := { base.runs with queue := [{ run1 with state := .jammed }], nextId := 2 } }

/-- The same stations with one run more behind the head. -/
def behind (s : State) (r : Run) : State :=
  s.modRuns fun u => { u with queue := u.queue ++ [{ r with id := 2, state := .queued }], nextId := 3 }

/-- A reel in feeder A. -/
def reel1 : Reel := ⟨5, 50, 300, 300, 0, .mounted, some .a, .verified, none⟩

/-- A station with a stock table. -/
def stocked (table : List Reel) : State := base.modStock fun u => { u with table := table }

/-- Feeder A bound to slot 0. -/
def bound (s : State) : State := s.modSlot 0 fun sl => { sl with boundA := true }

/-- A line copy. -/
def line1 : LineCopy :=
  ⟨0, 255, 20, 3, some 100, [7], false, false, false, false, 10, false, false⟩

/-- A station whose walker is as given, its run at the head. -/
def walking (w : Walker) (r : Run) : State := { printing r with job := ⟨[], w⟩ }

/-- The walker of a running chain. -/
def walker1 : Walker :=
  { Walker.blank with state := .running, copy := some line1, run := some 1, nextAddress := 10 }

/-- A station whose walker is HELD with nothing in the queue. -/
def heldJob (reason : HeldReason) : State :=
  { base with job := ⟨[], { walker1 with state := .held, run := none, heldReason := reason }⟩ }

/-- A station past its contact deadline. -/
def locked : State :=
  { base with
    acct := { base.acct with mode := .contactLocked }, rates := { base.rates with day := 340 } }

/-- A station with an open want. -/
def wanting (taken : Option Taken) : State :=
  base.modShare fun u => { u with
    want := some ⟨3, 500, true, taken⟩, lastWant := 3, wantWindow := some 1000
    settleTimer := some 2000 }

/-- A station with an entry in its pledge table. -/
def pledged (offer : Option Offer) : State :=
  ({ base with acct := { base.acct with avail := 9500, escrow := 500 } }).modShare fun u =>
    { u with pledges := [⟨9, 4, 500, offer, 0⟩] }

/-- What a step leaves, read by a test; false when the step gives no next state. -/
def after (o : Host.Outcome State Fault Refusal) (p : State → Bool) : Bool :=
  match o with
  | .next t => p t
  | _ => false

/-! ## Well-formedness -/

/-- Every check of Instr.wf refuses a term that is wrong in that point alone. -/
theorem test_wf_refuses_ill_formed :
    ([Instr.nop (List.replicate 61 0), .badCommand 5 [], .badCommand 0xFF (List.replicate 61 0),
      .shortFrame [0, 0], .frameIgnored ⟨false, false, 2048, []⟩,
      .frameIgnored ⟨true, false, 0, List.replicate 9 0⟩,
      .frameIgnored ⟨false, false, 48 * 32 + 3, [0, 0, 0, 0, 0, 0]⟩,
      .duplicateStation ⟨true, false, 7, []⟩, .duplicateStation ⟨false, true, 7, []⟩,
      .duplicateStation ⟨false, false, 31, []⟩, .duplicateStation ⟨false, false, 2048 + 7, []⟩,
      .standing 0 0 0 0, .want 31 0 0, .pledge 0 7 0 0 0, .pledge 3 0 0 0 0, .take 3 31 0 0 0,
      .settled 31 7 0 0 0, .ask 0 7 0 0, .waive 3 31 0 0, .received 3 0 0 0, .void 31 3 0 0,
      .reelNoteMounted 0 0 0 0, .reelNoteReleased 31 0 0 0, .reelNoteEmpty 0 0 0 0, .reelAsk 0 0,
      .peerAgeing 0, .pledgeTimerExpiry 0 0, .backupDelayExpiry 31 0, .askWindowExpiry 0,
      .qualifiedLevelChange .done true, .qualifiedLevelChange .service false].all
        fun c => !c.wf) = true := by decide

/-- Well-formed terms at the ends of their ranges pass. -/
theorem test_wf_accepts_well_formed :
    ([Instr.nop (List.replicate 60 0), .badCommand 0xFF [], .shortFrame [0], .shortFrame [0, 61],
      .frameIgnored ⟨false, false, 48 * 32 + 3, [0, 0, 0, 0, 0]⟩, .frameIgnored ⟨true, false, 2048, []⟩,
      .duplicateStation ⟨false, false, 30, []⟩, .standing 1 0 0 0, .pledge 30 30 0 0 0, .peerAgeing 30,
      .askWindowExpiry 1, .qualifiedLevelChange .done false, .qualifiedLevelChange .clean true].all
        (·.wf)) = true := by decide

/-- The bytes of a whole frame are not a short frame, and no code of the table is a bad command. -/
theorem test_frames_are_told_apart :
    tooShort [0x10, 2, 1, 44] = false ∧ tooShort [0x10, 2, 1] = true ∧ knownCode 0x50 = true ∧
    knownCode 0x51 = false ∧ commandTable.length = 45 := by decide

/-! ## Witnesses: the hypotheses of each statement, met together -/

set_option synthInstance.maxSize 1024
set_option synthInstance.maxHeartbeats 200000

theorem witness_StepRunsTheFrontCommand :
    ({ base with pending := [.doneRise, .restart] } : State).pending = .doneRise :: [.restart] := rfl

theorem witness_IdleStepIsTheTimeBase :
    base.pending = [] ∧ (base.runs.sendTimer = none ∧ base.runs.mechTimer = none) ∧
    (base.share.pledges = [] ∧ base.share.wantWindow = none ∧ base.share.settleTimer = none ∧
      base.share.retry = none ∧ base.stock.table = []) ∧
    (base.bus.standingTimer = some 5000 ∧ base.bus.peers = []) ∧
    step (base.modShare fun u => { u with retry := some 0 }) =
      exec .retryIntervalExpiry (base.modShare fun u => { u with retry := some 0 }) ∧
    step (base.modShare fun u => { u with pledges := [⟨9, 4, 500, none, 400⟩] }) =
      exec (.backupDelayExpiry 9 4) (base.modShare fun u => { u with pledges := [⟨9, 4, 500, none, 400⟩] }) ∧
    sampledOnce ⟨false, true, 3, false, true⟩ 4 = ⟨true, true, 0, true, true⟩ ∧
    sampledOnce ⟨false, true, 2, false, true⟩ 4 = ⟨false, true, 3, true, true⟩ ∧
    sampledOnce ⟨false, false, 3, false, true⟩ 4 = ⟨false, false, 1, true, true⟩ ∧
    sampledOnce ⟨false, true, 4, true, false⟩ 4 = ⟨true, true, 1, false, false⟩ ∧
    sampledOnce ⟨false, true, 4, true, true⟩ 4 = ⟨true, true, 0, true, true⟩ ∧
    sampledOnce ⟨false, false, 4, true, false⟩ 4 = ⟨true, true, 1, false, false⟩ := by
  refine ⟨by decide, by decide, by decide, by decide, rfl, rfl, by decide, by decide, by decide,
    by decide, by decide, by decide⟩

theorem witness_OutputsFollowTheState :
    FeedersSingle State.reset ∧ FeedersSingle (bound (stocked [reel1])).driveOutputs ∧
    (bound (stocked [reel1])).driveOutputs.outs.feedEnableA = true ∧
    State.reset.bus.state = .quiet ∧ base.bus.state = .active ∧ base.station = some 7 ∧
    base.runs.sending = [] := by
  unfold FeedersSingle; decide

theorem witness_FramesAreRefusedWithoutEffect :
    ([true] : List Bool).length < 8 ∧ (List.replicate 60 (0 : Byte)).length ≤ 60 ∧
    ([5] : List Byte).length < 2 ∧ 60 < (61 : Byte).toNat ∧
    portCommand (.setDay [1]) = some (.setDay, [1]) ∧ [1].length < CommandRow.setDay.minLen ∧
    CommandRow.setDay.maxLen < [1, 2, 3].length ∧
    (CommandRow.setDay.minLen ≤ [1, 2].length ∧ [1, 2].length ≤ CommandRow.setDay.maxLen) ∧
    State.reset.configured = false ∧ CommandRow.setDay.before = false ∧
    CommandRow.setDay ≠ .applyRefill ∧ (List.replicate 16 (0 : Byte)).length = 16 ∧
    base.configured = true ∧ CommandRow.setDay.prot = true ∧ guarded.port.protection = true ∧
    CommandRow.status.before = true := by decide

/-- A code that no command of the table has. -/
theorem witness_FramesAreRefusedWithoutEffect_code :
    ∀ c, ∀ x ∈ portCommand c, x.1.code ≠ (0x51 : Byte).toNat := by
  intro c x h
  cases c <;> cases h <;> exact Nat.ne_of_beq_eq_false rfl

theorem witness_ReadsChangeNothing : readsOnly (.readQueue [0]) = true := rfl

theorem witness_RecordReadsCarryTheRecord :
    base.configured = true ∧ 1 < (2 : Byte).toNat ∧ 31 < (32 : Byte).toNat ∧ (1 : Byte).toNat ≤ 1 ∧
    (31 : Byte).toNat ≤ 31 ∧ 63 < (64 : Byte).toNat ∧ (63 : Byte).toNat ≤ 63 ∧
    3 < (4 : Byte).toNat ∧ (3 : Byte).toNat ≤ 3 := by decide

theorem witness_ListReadsCarryTheRecords :
    base.configured = true ∧ 4095 < (16 : Byte).toNat * 256 + (0 : Byte).toNat ∧
    (15 : Byte).toNat * 256 + (255 : Byte).toNat ≤ 4095 ∧ 56 < (57 : Byte).toNat ∧ (56 : Byte) ≠ 0 ∧
    (56 : Byte).toNat ≤ 56 := by decide

theorem witness_PartsDescribeOneMoment :
    base.configured = true ∧ (wholeAnswer base .stock).length ≤ 63240 ∧ (1 : Byte) ≠ 0 ∧
    after (exec (.readStock [0]) base) (fun t => t.port.snapshot.isSome) = true := by decide

theorem witness_AlarmsAndMaskMoveByOnes :
    [(0xFF : Byte), 0xFF, 0xFF, 0xFF].length = 4 ∧ base.configured = true := by decide

theorem witness_ProtectionFollowsTheKey :
    portCommand (.setDay [1, 2]) = some (.setDay, [1, 2]) ∧ CommandRow.setDay.prot = true ∧
    [(1 : Byte), 2].length = CommandRow.setDay.minLen ∧ guarded.configured = true ∧
    guarded.port.protection = true ∧ (base.takeLevel .service true).lines.service.settled = true ∧
    (base.takeLevel .service true).lines.service.level = true ∧
    base.lines.service.settled = false := by decide

theorem witness_ConfigureIsCheckedAndEntersJoining :
    cfgBytes.length = 25 ∧ base.configured = true ∧ State.reset.configured = false ∧
    ¬ ConfigInRange (0 :: cfgBytes.drop 1) ∧ ConfigInRange cfgBytes ∧
    (field cfgBytes 2 4 < ({ State.reset.acct with avail := 200001 } : Accounts).avail) ∧
    State.reset.port.settings = none ∧ State.reset.acct.mode = .unconfigured ∧
    State.reset.bus.tx = [] ∧ State.reset.acct.avail + State.reset.acct.held +
      State.reset.acct.escrow + State.reset.acct.incoming ≤ field cfgBytes 2 4 := by
  unfold ConfigInRange; decide

theorem witness_RestartClearsTheVolatileState :
    GrantsHeldOnce base ∧ (base.slot 0).state ≠ .idle ∧ (base.slot 0).grant ≠ 0 ∧
    (base.slot 0).grant < 64 := by
  unfold GrantsHeldOnce; decide

theorem witness_SetDayMovesTheDayForward :
    [(1 : Byte), 45].length = 2 ∧ base.port.settings = some cfg ∧ base.port.protection = false ∧
    field [1, 43] 0 2 < base.rates.day ∧ field [1, 44] 0 2 = base.rates.day ∧
    base.rates.day < field [1, 45] 0 2 ∧ base.acct.mode ≠ .contactLocked ∧
    locked.acct.mode = .contactLocked ∧ locked.rates.day < field [1, 89] 0 2 ∧
    contactOutcome (field [1, 89] 0 2) locked.refill.lastContact cfg.contactDays =
      .contactLocked := by decide

/-- An entry of a WRITE PENDING RATE payload at the ends of its ranges. -/
def rateBytes1 : List Byte :=
  [31, 1, 1, 134, 159, 39, 15, 39, 15, 1, 134, 159, 117, 48, 39, 15, 1, 244]

theorem witness_PendingTableAndItsDayAreWritten :
    rateBytes1.length = 18 ∧ base.configured = true ∧ base.port.protection = false ∧
    31 < field (32 :: rateBytes1.drop 1) 0 1 ∧ field rateBytes1 0 1 ≤ 31 ∧
    field (31 :: 2 :: rateBytes1.drop 2) 1 1 ≠ 0 ∧ field rateBytes1 1 1 = 1 ∧
    (rateOfPayload rateBytes1).ok = true ∧ field (31 :: 0 :: rateBytes1.drop 2) 1 1 = 0 ∧
    [(1 : Byte), 45].length = 2 ∧ State.reset.configured = false ∧ guarded.configured = true ∧
    guarded.port.protection = true ∧ field [1, 44] 0 2 ≤ base.rates.day ∧
    base.rates.day < field [1, 45] 0 2 := by decide

theorem witness_ImprintValueFollowsTheRates :
    (⟨99999, 20, 10, 99999, 30000, 2, 500⟩ : RateEntry).ok = true ∧
    (⟨99999, 20, 10, 99999, 30000, 2, 500⟩ : RateEntry).value 30 (some 2) = .ok 99999 ∧
    (⟨99999, 20, 10, 99999, 30000, 2, 500⟩ : RateEntry).value 30001 none = .error .overweight ∧
    (⟨99999, 20, 10, 99999, 30000, 2, 500⟩ : RateEntry).value 30000 none = .error .tooLarge ∧
    (⟨1, 20, 0, 0, 20, 0, 0⟩ : RateEntry).value 21 none = .error .overweight := by
  refine ⟨by decide, rfl, rfl, rfl, rfl⟩

/-- A WRITE GRANT payload for grant 63. -/
def grantBytes1 : List Byte := [63, 9, 0, 44, 15, 255, 255, 3, 0, 0, 0, 0]

theorem witness_GrantIsWrittenWhole :
    grantBytes1.length = 12 ∧ base.configured = true ∧ base.port.protection = false ∧
    field (0 :: grantBytes1.drop 1) 0 1 = 0 ∧ 63 < field (64 :: grantBytes1.drop 1) 0 1 ∧
    field grantBytes1 0 1 ≤ 63 ∧ field grantBytes1 1 1 < 16 ∧ field grantBytes1 4 3 ≤ 1048575 ∧
    field grantBytes1 7 1 ≤ 3 ∧ field grantBytes1 2 2 ≠ 0 := by decide

theorem witness_PeriodClosesForEveryGrant :
    State.reset.configured = false ∧ guarded.configured = true ∧ guarded.port.protection = true ∧
    base.port.protection = false ∧ (base.slot 0).state ≠ .idle ∧
    (∀ i < 4, ((base.modSlot 0 fun sl => { sl with state := .idle }).slot i).state = .idle) := by
  decide

theorem witness_HeadroomComesFromTheCachedCopy :
    Slot.blank.state = .idle ∧ (base.slot 0).state ≠ .idle ∧ (base.slot 0).grant ≠ 0 ∧
    (base.slot 0).kind = .capped ∧
    ({ base.slot 0 with kind := .prepaid, effective := 104857500 } : Slot).headroom = 104857500 := by
  decide

theorem witness_OpenSlotCachesTheGrant :
    base.configured = true ∧ 3 < (4 : Byte).toNat ∧ 63 < (64 : Byte).toNat ∧
    (base.slot 0).state ≠ .idle ∧ (base.slot 3).state = .idle ∧ (base.grant 63).present = false ∧
    (base.grant 1).present = true ∧ (3 : Byte).toNat ≤ (base.grant 1).level ∧
    (base.grant 1).level < 4 ∧ ((base.slot 0).state ≠ .idle ∧ (base.slot 0).grant = 1) ∧
    after (exec (.openSlot [3, 1, 3]) (base.modSlot 0 fun sl => { sl with state := .idle }))
      (fun t => (t.slot 3).effective == 50000) = true ∧
    after (exec (.openSlot [3, 1, 3])
      (base.setGrant 1 { base.grant 1 with level := 2 }))
      (fun t => t.port.response.status == .level) = true := by decide

theorem witness_CloseSlotReturnsItsUsage :
    base.configured = true ∧ (0 : Byte).toNat ≤ 3 ∧ (1 : Byte).toNat ≤ 1 ∧
    (base.slot 0).state = .opened ∧ (∀ r ∈ base.runs.queue, r.slot ≠ 0) ∧ (base.slot 0).grant < 64 ∧
    ((base.setGrant 1 { base.grant 1 with kind := .prepaid, amount := 9 }).grant 1).kind = .prepaid ∧
    9 < ((base.modSlot 0 fun sl => { sl with stockDelta := 10 }).slot 0).stockDelta := by decide

theorem witness_CloseSlotWaitsForItsRuns :
    base.configured = true ∧ 3 < (4 : Byte).toNat ∧ 1 < (2 : Byte).toNat ∧
    (base.slot 3).state = .idle ∧
    ((base.modSlot 0 fun sl => { sl with state := .closing }).slot 0).state = .closing ∧
    ((printing run1).slot 0).state = .opened ∧ run1 ∈ (printing run1).runs.queue ∧
    run1.slot = 0 ∧ (printing run1).runs.inFlight.isSome = true ∧
    (printing run1).runs.queue.length = 1 ∧ run1.state = .printing := by decide

/-- The abandon of a slot: every run of the queue leaves; a run behind an imprint in flight leaves; the
walker takes no part. The queue law of these states is witness_QueueLaw. -/
theorem witness_CloseSlotWaitsForItsRuns_abandon :
    (behind jammed run1).runs.queue.filter (fun r => r.slot == 0 && !r.underWay) =
      (behind jammed run1).runs.queue ∧
    (∀ r ∈ (behind jammed run1).runs.queue, WalkerApart (behind jammed run1) r) ∧
    ((behind (printing run1) run1).runs.queue.filter
      fun r => r.slot == 0 && !r.underWay).map (·.id) = [2] ∧
    NoStart (behind (printing { run1 with state := .stopping }) run1) ∧
    (behind (printing run1) { run1 with slot := 3 }).runs.queue.map (·.slot) = [0, 3] ∧
    ({ jammed with job := ⟨[], walker1⟩ } : State).job.walker.run = some 1 := by
  refine ⟨by decide, ?_, by decide, ?_, by decide, rfl⟩
  · unfold WalkerApart; decide
  · rintro r ⟨⟩ h; exact absurd h (by decide)

theorem witness_FeederIsBoundToOneSlot :
    State.reset.configured = false ∧ base.configured = true ∧ 1 < (2 : Byte).toNat ∧
    (3 < (4 : Byte).toNat ∧ (4 : Byte).toNat ≠ 255) ∧ (1 : Byte).toNat ≤ 1 ∧
    (255 : Byte).toNat = 255 ∧ (3 : Byte).toNat ≤ 3 ∧ (base.slot 3).state = .idle ∧
    (base.slot 0).state = .opened := by decide

/-- A START RUN payload at the ends of its ranges: 9,999 imprints of 999,999 at weight 30,000. -/
def runBytes : List Byte := [0, 255, 117, 48, 39, 15, 15, 66, 63, 192, 1, 126]

theorem witness_StartRunIsCheckedAndAppended :
    base.configured = true ∧ 10 ≤ runBytes.length ∧ runBytes.length ≤ 60 ∧
    3 < field (4 :: runBytes.drop 1) 0 1 ∧ (base.slot 3).state = .idle ∧
    ((base.modSlot 0 fun sl => { sl with state := .closing }).slot 0).state = .closing ∧
    ((base.modSlot 0 fun sl => { sl with grant := 0 }).slot 0).grant = 0 ∧
    (base.slot 0).state = .opened ∧ (base.slot 0).grant ≠ 0 ∧ (runArgs runBytes).ok = true ∧
    (runArgs (0 :: 254 :: runBytes.drop 2)).ok = false ∧
    (printing run1).runs.queue.length < 8 ∧ MustWait (printing run1) ∧
    8 ≤ (List.replicate 8 run1).length := by
  unfold MustWait; decide

theorem witness_FirstImprintIsAuthorised :
    base.configured = true ∧ base.runs.queue = [] ∧ base.runs.inFlight = none ∧
    10 ≤ runBytes.length ∧ runBytes.length ≤ 60 ∧ field runBytes 0 1 ≤ 3 ∧ StartRunOk runBytes ∧
    (base.slot 0).state = .opened ∧ (base.slot 0).grant ≠ 0 ∧ base.acct.mode = .active ∧
    (startRunOf runBytes 1).state = .queued ∧
    MayAuthorise base { run1 with latched := 10000 } ∧
    ¬ MayAuthorise base { run1 with latched := 10001 } := by
  unfold MayAuthorise StartRunOk; decide

/-- The ends at a start: no entry for the tariff code, not covered as a whole, and the USED maximum. -/
theorem witness_FirstImprintIsAuthorised_ends :
    startValue base { run1 with direct := none, tariff := 31 } = .error .rateMissing ∧
    startValue base run1 = .ok 100 ∧
    StartsShort base { run1 with allOrNone := true, count := some 101 } 100 ∧
    ¬ StartsShort base { run1 with allOrNone := true, count := some 100 } 100 ∧
    OverUsed { base with acct := { base.acct with used := 1099511627676 } } run1 ∧
    ¬ OverUsed { base with acct := { base.acct with used := 1099511627675 } } run1 ∧
    WalkerApart base run1 := by
  unfold StartsShort OverUsed WalkerApart
  refine ⟨rfl, rfl, ?_, ?_, ?_, ?_, ?_⟩ <;> decide

/-- The queue law on a station that prints, and on one that is jammed. -/
theorem witness_QueueLaw :
    QueueLaw base ∧ QueueLaw (printing run1) ∧ QueueLaw (printing { run1 with state := .stopping }) ∧
    QueueLaw (printing { run1 with printed := 4294967295 }) ∧ QueueLaw jammed ∧
    QueueLaw (behind jammed run1) ∧ QueueLaw (behind (printing run1) run1) ∧
    QueueLaw (heldJob .linkHold) ∧ QueueLaw (behind locked run1) := by
  refine ⟨⟨by decide, by decide, by decide, rfl, by decide⟩, ⟨by decide, by decide, by decide, ?_⟩,
    ⟨by decide, by decide, by decide, ?_⟩, ⟨by decide, by decide, by decide, ?_⟩,
    ⟨by decide, by decide, by decide, rfl, by decide⟩, ⟨by decide, by decide, by decide, rfl, by decide⟩,
    ⟨by decide, by decide, by decide, ?_⟩, ⟨by decide, by decide, by decide, rfl, by decide⟩,
    ⟨by decide, by decide, by decide, rfl, by decide⟩⟩ <;>
  exact ⟨rfl, _, rfl, by decide⟩

theorem witness_StopAndResumeActOnTheRun :
    base.configured = true ∧ (∀ r ∈ base.runs.queue, r.id ≠ 255) ∧
    run1 ∈ (printing run1).runs.queue ∧ run1.id = (1 : Byte).toNat ∧ run1.state = .printing ∧
    WalkerApart jammed run1 ∧ jammed.runs.queue = [{ run1 with state := .jammed }] ∧
    run1.slot ≤ 3 ∧ (printing run1).runs.inFlight.isSome = true ∧
    MayAuthorise jammed { run1 with state := .jammed } ∧
    ¬ MayAuthorise { jammed with acct := { jammed.acct with avail := 99 } } run1 ∧
    OverUsed { jammed with acct := { jammed.acct with used := 1099511627676 } } run1 ∧
    jammed.acct.mode ≠ .unconfigured := by
  unfold WalkerApart MayAuthorise OverUsed; decide

theorem witness_SendingEndsAndLateOutcomesAreAlarmed :
    ({ printing run1 with runs := { (printing run1).runs with
      inFlight := some ⟨1, 1, 100, .sending⟩ } } : State).runs.inFlight =
        some ⟨1, 1, 100, .sending⟩ ∧ base.runs.inFlight = none := by decide

theorem witness_DoneUsesTheCreditAndGoesOn :
    (printing run1).runs.inFlight = some ⟨1, 1, 100, .enabled⟩ ∧
    (printing run1).runs.queue.head? = some run1 ∧ run1.slot ≤ 3 ∧ run1.printed < 4294967295 ∧
    WalkerApart (printing run1) run1 ∧ (printing run1).runs.queue = [run1] ∧
    (∀ c, run1.count = some c → ¬ c ≤ run1.printed + 1) ∧
    ¬ MayAuthorise { printing run1 with
      acct := { (printing run1).acct with avail := 99, held := 0, used := 100 } } run1 ∧
    MayAuthorise { printing run1 with
      acct := { (printing run1).acct with held := 0, used := 100 } } run1 ∧
    ({ run1 with count := some 1 } : Run).count = some 1 := by
  unfold WalkerApart MayAuthorise
  refine ⟨by decide, by decide, by decide, by decide, by decide, by decide, ?_, by decide, by decide,
    rfl⟩
  rintro c ⟨⟩; decide

theorem witness_FailedImprintsAreRefundedOrSpoiled :
    ((printing run1).takeLevel .clean true).lines.clean.level = true ∧
    (printing run1).lines.clean.level = false ∧ run1.state = .printing ∧
    (Instr.mechanismTimerExpiry ≠ .faultRise) ∧ run1.slot ≤ 3 ∧
    (printing run1).runs.inFlight = some ⟨1, 1, 100, .enabled⟩ ∧
    WalkerApart (printing { run1 with state := .stopping }) { run1 with state := .stopping } := by
  unfold WalkerApart; decide

theorem witness_WriteJobWritesItsBytes :
    base.configured = true ∧ 2 ≤ [(15 : Byte), 255, 9].length ∧ field [15, 255, 9] 0 2 ≤ 4095 ∧
    4095 < field [16, 0, 9] 0 2 ∧ (List.replicate 58 (0 : Byte)).length ≤ 58 ∧
    58 < (List.replicate 59 (0 : Byte)).length ∧ base.job.memory.wf = true := by decide

theorem witness_JobLinesDecodeAsLaidOut :
    LineInRange line1 ∧ Memory.jobBytes (Memory.jobWrite [] 4090 (jobLineBytes line1)) 4090
      (jobLineBytes line1).length = jobLineBytes line1 ∧
    parseLine (Memory.jobWrite [] 4090 (jobLineBytes line1)) 4090 false false = some line1 ∧
    parseLine [] 0 false false = none := by
  refine ⟨⟨by decide, by decide, by decide, .inr ⟨rfl, 100, rfl, by decide⟩, by decide, by decide,
    by decide⟩, by decide, by decide, by decide⟩

theorem witness_StartJobFetchesTheFirstLine :
    base.configured = true ∧ 4095 < (16 : Byte).toNat * 256 + (0 : Byte).toNat ∧
    (1 : Byte).toNat % 64 ≠ 0 ∧ (192 : Byte).toNat % 64 = 0 ∧
    (walking walker1 run1).job.walker.state = .running ∧ base.job.walker.state = .idle ∧
    base.runs.queue = [] ∧ base.runs.inFlight = none ∧ base.acct.mode = .active ∧
    (behind (printing run1) run1).job.walker.state = .idle := by decide

theorem witness_HeldAndHaltedWalkersAnswer :
    base.configured = true ∧ base.job.walker.state ≠ .held ∧
    (heldJob .linkHold).job.walker.heldReason = .linkHold ∧
    (heldJob .noCredit).job.walker.heldReason = .noCredit ∧
    (heldJob .noCredit).job.walker.copy = some line1 ∧
    (walking walker1 run1).job.walker.run = some run1.id ∧
    (walking walker1 run1).job.walker.haltPending = false ∧ run1.state = .printing ∧
    (walking walker1 { run1 with state := .stopping }).job.walker.run = some run1.id ∧
    (walking walker1 { run1 with state := .stopping }).runs.queue.map (·.state) = [.stopping] ∧
    ({ jammed with job := ⟨[], walker1⟩ } : State).job.walker.run = some run1.id ∧
    jammed.runs.queue.map (·.state) = [.jammed] := by decide

theorem witness_WalkerFollowsItsRunsEnd :
    QueueLaw (walking walker1 run1) ∧
    (walking walker1 run1).runs.inFlight = some ⟨1, 1, 100, .enabled⟩ ∧
    (walking walker1 run1).runs.queue = [run1] ∧ walker1.run = some run1.id ∧
    walker1.state = .running ∧ walker1.copy = some line1 ∧ walker1.haltPending = false ∧
    (line1.linkEnd = false ∧ line1.linkHold = false) ∧
    ({ line1 with linkEnd := true } : LineCopy).linkEnd = true ∧
    ({ line1 with linkHold := true } : LineCopy).linkHold = true ∧
    parseLine (Memory.jobWrite [] 10 (jobLineBytes line1)) walker1.nextAddress false false =
      some line1 ∧
    parseLine [] walker1.nextAddress walker1.latchedAllOrNone walker1.latchedAutoClose = none ∧
    ({ walker1 with haltPending := true } : Walker).haltPending = true := by
  refine ⟨⟨by decide, by decide, by decide, rfl, run1, rfl, by decide⟩, by decide, by decide,
    by decide, by decide, by decide, by decide, by decide, by decide, by decide, by decide,
    by decide, by decide⟩

/-- The walkers of WalkerTold: its own run's end, one that waits, one apart. -/
theorem witness_WalkerFollowsItsRunsEnd_walkers :
    ((behind jammed run1).runs.queue.map (·.id)).Nodup ∧ run1.slot ≤ 3 ∧
    (walker1.run = some run1.id ∧ walker1.haltPending = false) ∧
    ({ walker1 with state := .waiting, run := none } : Walker).run ≠ some run1.id ∧
    (base.job.walker.run ≠ some run1.id ∧ base.job.walker.state ≠ .waiting) := by decide

/-- The ends of R83 the walker follows: too little credit, another check, and the USED maximum. -/
theorem witness_WalkerFollowsItsRunsEnd_reasons :
    let short : State := { base with acct := { base.acct with avail := 99 } }
    let spent : State := { base with acct := { base.acct with mode := .exhausted } }
    let full : State := { base with acct := { base.acct with used := 1099511627676 } }
    (¬ MayAuthorise short run1 ∧ ¬ OverUsed short run1 ∧ short.acct.mode ≠ .unconfigured) ∧
    authoriseEnd short run1 = .noCredit ∧
    (¬ MayAuthorise spent run1 ∧ ¬ OverUsed spent run1 ∧ spent.acct.mode ≠ .unconfigured) ∧
    authoriseEnd spent run1 = .exhausted ∧
    (¬ MayAuthorise full run1 ∧ OverUsed full run1 ∧ authoriseEnd full run1 = .exhausted) := by
  unfold MayAuthorise OverUsed; decide

theorem witness_StockLaw :
    StockLaw base ∧ StockLaw (stocked [reel1]) ∧
    StockLaw (stocked [{ reel1 with state := .released, feeder := none }, { reel1 with id := 6 }]) ∧
    StockLaw (stocked ((List.range 12).map fun k =>
      { reel1 with id := k + 10, state := .released, feeder := none })) := by
  unfold StockLaw; decide

theorem witness_ReelsAreMountedAndUnmounted :
    base.configured = true ∧ [(0 : Byte), 0, 0, 0, 5, 0, 50, 1, 44].length = 9 ∧
    1 < field [2, 0, 0, 0, 5, 0, 50, 1, 44] 0 1 ∧ field [0, 0, 0, 0, 5, 0, 50, 1, 44] 1 4 = 5 ∧
    reel1 ∈ (stocked [reel1]).stock.table ∧ reel1.state = .mounted ∧ reel1.feeder = some .a ∧
    (∀ r ∈ (stocked [{ reel1 with state := .released, feeder := none }]).stock.table,
      r.state = .mounted → r.feeder ≠ some .a) ∧ (2 : Byte).toNat > 1 ∧
    (base.modStock fun u => { u with released := [⟨5, 300, 50, 9⟩] }).stock.released.find?
      (·.reelId == 5) = some ⟨5, 300, 50, 9⟩ ∧
    ({ reel1 with check := .conflict } : Reel).check = .conflict ∧
    ({ reel1 with state := .empty } : Reel).feeder = some .a := by decide

theorem witness_IssueCountsOneStamp :
    StockLaw (bound (stocked [reel1])) ∧ FeedersBoundOnce (bound (stocked [reel1])) ∧
    reel1 ∈ (bound (stocked [reel1])).stock.table ∧ 0 < reel1.remaining ∧
    ((bound (stocked [reel1])).slot 0).bound .a = true ∧
    ((bound (stocked [reel1])).slot 0).grant ≠ 0 ∧ (stocked [reel1]).outs.feed .a = false ∧
    (∀ i < 4, ((stocked [reel1]).slot i).bound .a = true → ((stocked [reel1]).slot i).grant = 0) ∧
    ({ reel1 with remaining := 1 } : Reel).remaining = 1 := by
  unfold StockLaw FeedersBoundOnce; decide

theorem witness_ReelNotesAreTaken :
    Heard (stocked [reel1]) 9 ∧ reel1.id = (5 : BitVec 32).toNat ∧ (300 : BitVec 16) ≠ 0 ∧
    (50 : BitVec 16) ≠ 0 ∧ reel1.check = .verified ∧ reel1.countAtLoad = (300 : BitVec 16).toNat ∧
    reel1.denomination = (50 : BitVec 16).toNat ∧
    ({ reel1 with check := .asking, askWindow := some 1000, issued := 299 } : Reel).issued <
      (300 : BitVec 16).toNat := by
  unfold Heard; decide

theorem witness_ReelAskIsAnsweredAndTheWindowEnds :
    Heard (stocked [reel1]) 30 ∧ HeardWhole (stocked [reel1]) 1 ∧
    Heard (base.modBus fun b => { b with state := .silenced }) 9 ∧
    (∀ r ∈ (stocked [{ reel1 with state := .empty }]).stock.table,
      r.id = (5 : BitVec 32).toNat → r.state = .empty) ∧
    ([⟨5, 300, 50, 9⟩] : List ReleasedNote).find? (·.reelId == (5 : BitVec 32).toNat) =
      some ⟨5, 300, 50, 9⟩ ∧
    ({ reel1 with check := .asking, askWindow := some 0 } : Reel).askWindow ≠ none := by
  unfold Heard HeardWhole; decide

theorem witness_BusFramesReadAsLaidOut :
    busFrameOf 48 [0, 0, 1, 0, 2, 3] = some (.standing 1 2 3) ∧ 1 ≤ 30 ∧
    busFrameOf 48 [0, 0, 1, 0, 2] = none := by decide

theorem witness_FramesAreCheckedAndPeersKept :
    State.reset.busReceives = false ∧ base.busReceives = true ∧
    RxFrame.ignorable ⟨false, false, 48 * 32 + 3, []⟩ = true ∧ base.station ≠ some 3 ∧
    base.station = some ((7 : BitVec 29).toNat % 32) ∧ base.busSends = true ∧ Heard base 3 ∧
    (base.modShare fun u => { u with unresolved := [⟨3, 1, 1, 100⟩] }).share.unresolved ≠ [] := by
  unfold Heard; decide

theorem witness_LoadedFrameLeavesOrReturns :
    (∀ e ∈ base.bus.tx, e.loaded = false) ∧
    (∃ e ∈ (base.modBus fun b =>
      { b with tx := [⟨.standing 0 0 0, true⟩, ⟨.standing 1 0 0, false⟩] }).bus.tx, e.loaded = true) ∧
    (base.modBus fun b => { b with state := .joining }).bus.state = .joining ∧
    (BusFrame.reelAsk 5).code ≠ 48 ∧ State.reset.busSends = false ∧ base.busSends = true ∧
    ¬ Queued base (.reelAsk 5) ∧
    Queued (base.modBus fun b => { b with tx := [⟨.reelAsk 5, true⟩] }) (.reelAsk 5) ∧
    TransmitQueueLaw (base.modBus fun b => { b with tx := [⟨.want 3 500, true⟩, ⟨.standing 0 0 0, false⟩] }) ∧
    16 ≤ (List.replicate 16 (⟨.want 3 500, false⟩ : TxEntry)).length := by
  unfold Queued TransmitQueueLaw; decide

theorem witness_BusLeavesAndJoinsAgain :
    State.reset.busSends = false ∧ base.busSends = true ∧ base.configured = true ∧
    base.bus.state ≠ .off ∧ (base.modBus fun b => { b with state := .off }).bus.tx = [] ∧
    base.bus.standingTimer ≠ none ∧ State.reset.bus.standingTimer = none ∧
    base.standingChanged = false ∧
    (base.modBus fun b => { b with announcedSurplus := 99 }).standingChanged = true ∧
    ([⟨.standing 0 0 0, true⟩, ⟨.standing 1 0 0, false⟩] : List TxEntry).map (·.waitingStanding) =
      [false, true] := by decide

theorem witness_WantsAreAnsweredByRank :
    HeardWhole base 9 ∧ Eligible base 0 ∧ RanksFirst base 9 ∧
    ¬ RanksFirst (base.modBus fun b => { b with peers := [⟨3, 9900, 300, .clear, 0, .live⟩] }) 9 ∧
    ¬ Eligible (wanting none) 0 ∧ 100 ≤ (100 : BitVec 24).toNat ∧
    PledgeKeys (pledged none).share.pledges ∧ Eligible (pledged none) 0 := by
  unfold HeardWhole Eligible RanksFirst PledgeKeys
  refine ⟨?_, ?_, ?_, ?_, ?_, ?_, ?_, ?_⟩ <;> decide

theorem witness_PledgesAreTakenOrWaived :
    HeardWhole (wanting none) 9 ∧ base.station ≠ some (9 : BitVec 8).toNat ∧
    base.station = some (7 : BitVec 8).toNat ∧
    (wanting none).share.want = some ⟨3, 500, true, none⟩ ∧
    (wanting none).share.wantWindow ≠ none ∧ (500 : BitVec 24).toNat ≤ 500 ∧
    (wanting none).ceiling - (wanting none).acct.avail ≥ 500 ∧ 99 < (100 : BitVec 24).toNat := by
  unfold HeardWhole; decide

theorem witness_GiverConcludesOrReturns :
    PledgeKeys (pledged (some ⟨2, 500⟩)).share.pledges ∧ HeardWhole (pledged (some ⟨2, 500⟩)) 9 ∧
    (pledged (some ⟨2, 500⟩)).share.pledges = [⟨9, 4, 500, some ⟨2, 500⟩, 0⟩] ∧
    base.station = some (7 : BitVec 8).toNat ∧ base.share.pledges = [] := by
  unfold PledgeKeys HeardWhole; decide

theorem witness_RequesterSettlesOrGivesUp :
    HeardWhole (wanting (some ⟨9, 2, 500, 3⟩)) 9 ∧ base.station = some (7 : BitVec 8).toNat ∧
    (wanting (some ⟨9, 2, 500, 3⟩)).share.want = some ⟨3, 500, true, some ⟨9, 2, 500, 3⟩⟩ ∧
    (base.modShare fun u => { u with unresolved := [⟨9, 3, 2, 500⟩] }).share.unresolved =
      [⟨9, 3, 2, 500⟩] ∧ base.share.unresolved = [] := by
  unfold HeardWhole; decide

theorem witness_DiscardWritesOffTheAmount :
    base.configured = true ∧ guarded.port.protection = true ∧ base.port.protection = false ∧
    (30 : Byte) ≠ 0 ∧ (30 : Byte).toNat ≤ 30 ∧ 30 < (31 : Byte).toNat ∧
    (base.modShare fun u => { u with unresolved := [⟨30, 3, 2, 500⟩] }).share.unresolved.find?
      (fun u => u.station == 30 && u.wantNo == 3 && u.pledgeNo == 2) = some ⟨30, 3, 2, 500⟩ := by
  decide

theorem witness_WantIsSentOnItsConditions :
    base.configured = true ∧ base.share.request = none ∧ base.acct.mode ≠ .exhausted ∧
    WantConditions (base.modShare fun u => { u with request := some 100 }) ∧
    100 ≤ (base.modShare fun u => { u with request := some 100 }).wantAmount ∧
    ¬ WantConditions base ∧
    (base.modShare fun u => { u with retry := some 5000 }).share.retry ≠ none := by
  unfold WantConditions; decide

theorem witness_WantTimersCloseOrAskAgain :
    (wanting none).share.wantWindow ≠ none ∧ (wanting none).share.settleTimer ≠ none ∧
    base.share.wantWindow = none ∧ base.share.settleTimer = none ∧
    (wanting (some ⟨9, 2, 500, 2⟩)).share.want = some ⟨3, 500, true, some ⟨9, 2, 500, 2⟩⟩ := by
  decide

theorem witness_RefillIsAppliedOnce :
    (List.replicate 16 (0 : Byte)).length = 16 ∧ base.port.settings = some cfg ∧
    base.acct.mode ≠ .contactLocked ∧ locked.acct.mode = .contactLocked ∧
    (behind locked run1).runs.queue ≠ [] := by decide

/-- A refill record that passes the checks exists for every secret and check code, whatever the mode but
EXHAUSTED: its serial and check fields are the ones the part forms. -/
theorem witness_RefillIsAppliedOnce_passes :
    ∀ s ∈ [base, behind locked run1],
      s.refillCheck
        ⟨s.refill.serial, 1, 180000, 341, Config.checkCode s.refill.secret []⟩ [] = .applied := by
  have h : base.room = 190000 := by decide
  have h' : (behind locked run1).room = 190000 := by decide
  have h1 : base.refill.lastNumber = 0 := rfl
  have h1' : (behind locked run1).refill.lastNumber = 0 := rfl
  have h2 : base.acct.mode = .active := rfl
  have h2' : (behind locked run1).acct.mode = .contactLocked := rfl
  simp [State.refillCheck, h, h1, h2, h', h1', h2']

theorem witness_LineEdgesReachTheirOwners :
    ownedEdge .clean true = false ∧ ownedEdge .done true = true ∧
    base.driveOutputs.driveOutputs = base.driveOutputs := ⟨rfl, rfl, rfl⟩

/-- The invariants hold together in a state that prints, and a step follows. -/
theorem witness_laws_are_met :
    WithinCeiling (printing run1) ∧ SpoiledWithinUsed (printing run1) ∧
    GrantsHeldOnce (printing run1) ∧ FeedersBoundOnce (printing run1) ∧
    TransferLimits (printing run1) ∧ PeerTableLaw (printing run1) ∧
    TransmitQueueLaw (printing run1) ∧ JobMemoryWf (printing run1) ∧
    AlarmBitsDefined (printing run1) ∧ DaysInOrder (printing run1) ∧ ModeInStep (printing run1) ∧
    after (step { printing run1 with pending := [.doneRise] }) (fun t => t.acct.used == 100) = true := by
  unfold WithinCeiling ControlIdentity PledgeKeys SpoiledWithinUsed GrantsHeldOnce FeedersBoundOnce
    TransferLimits PeerTableLaw TransmitQueueLaw JobMemoryWf AlarmBitsDefined DaysInOrder
  refine ⟨by decide, by decide, by decide, by decide, by decide, by decide, by decide, by decide,
    by decide, ⟨?_, by decide⟩, .inr rfl, by decide⟩
  rintro e ⟨⟩

/-! ## The spec's worked figures, and one step of each family -/

/-- The worked cases of 04_rates_values_and_the_postal_day.md. -/
theorem test_worked_imprint_values :
    let e : RateEntry := ⟨85, 20, 20, 32, 2000, 50, 35⟩
    e.value 67 (some 120) = .ok 175 ∧ e.value 60 (some 30) = .ok 149 ∧
    e.value 60 (some 50) = .ok 144 ∧ e.value 0 none = .ok 85 ∧
    e.value 2001 (some 1) = .error .overweight ∧ e.value 2000 (some 1) = .ok 3253 ∧
    RateEntry.value ⟨1, 20, 0, 0, 20, 2, 500⟩ 20 (some 10) = .ok 1 ∧
    RateEntry.value ⟨900, 20, 10, 99999, 2000, 0, 0⟩ 120 (some 1) = .error .tooLarge := by decide

/-- The identifiers worked out in 07_the_branch_bus.md. -/
theorem test_worked_identifiers :
    (BusFrame.settled 1 2 3 4).identifier 3 = 131 ∧ (BusFrame.take 1 2 3 4).identifier 12 = 268 ∧
    (BusFrame.pledge 1 2 3 4).identifier 12 = 524 ∧ (BusFrame.want 2 3).identifier 3 = 643 ∧
    (BusFrame.reelAsk 5).identifier 30 = 1086 ∧ (BusFrame.standing 1 2 0).identifier 7 = 1543 := by
  decide

/-- Line C of 06_job_chains.md, read across the top of job memory. -/
theorem test_worked_job_line :
    parseLine (Memory.jobWrite [] 4090 [2, 3, 0, 20, 0, 40, 5, 9, 127, 16, 0]) 4090 false true =
      some ⟨2, 3, 20, 40, none, [5, 9], true, false, false, false, 0, false, true⟩ := by decide

theorem test_start_run_authorises :
    after (exec (.startRun [0, 255, 0, 20, 0, 2, 0, 0, 100, 0]) base) (fun t =>
      t.acct.avail == 9900 && t.acct.held == 100 && t.acct.imprintNo == 1 &&
      t.port.response.payload == [1] && (t.slot 0).printDelta == 100) = true := by decide

theorem test_done_goes_on :
    after (exec .doneRise (printing run1)) (fun t =>
      t.acct.used == 100 && t.acct.held == 100 && t.acct.avail == 9800 &&
      t.runs.queue.map (·.printed) == [1]) = true := by decide

theorem test_mechanism_timeout_spoils :
    after (exec .mechanismTimerExpiry (printing run1)) (fun t =>
      t.acct.used == 100 && t.acct.spoiled == 100 && t.acct.held == 0 && t.alarm .mechTimeout &&
      t.runs.queue.map (·.state) == [.jammed]) = true := by decide

theorem test_restart_settles :
    after (exec .restart (printing run1)) (fun t =>
      t.acct.spoiled == 100 && t.acct.restartSpoil == 100 && t.runs.queue == [] &&
      t.runs.finished.map (·.reason) == [.restart] && (t.slot 0).state == .idle) = true := by decide

theorem test_write_grant_needs_the_key :
    after (exec (.writeGrant [2, 1, 0, 9, 0, 1, 0, 3, 0, 0, 0, 0]) guarded) (fun t =>
      t.port.response == ⟨.prot, []⟩ && !(t.grant 2).present) = true ∧
    after (exec (.writeGrant [2, 1, 0, 9, 0, 1, 0, 3, 0, 0, 0, 0]) base) (fun t =>
      t.port.response == ⟨.ok, []⟩ && (t.grant 2).amount == 256) = true := by decide

theorem test_issue_charges_the_slot :
    after (exec (.issueRise .a) (bound (stocked [reel1]))) (fun t =>
      (t.slot 0).stockDelta == 50 && (t.slot 0).lateIssues == 1 &&
      t.stock.table.map (·.remaining) == [299] && t.outs.feedEnableA) = true := by decide

theorem test_take_concludes :
    after (exec (.take 9 7 4 2 500) (pledged (some ⟨2, 500⟩))) (fun t =>
      t.acct.escrow == 0 && t.acct.control == 9500 && t.share.pledges == [] &&
      t.share.outRecord == [⟨9, 4, 2, 500⟩] &&
      t.bus.tx.map (·.frame) == [.settled 9 4 2 500]) = true := by decide

theorem test_pledge_is_taken :
    after (exec (.pledge 9 7 3 2 500) (wanting none)) (fun t =>
      t.acct.incoming == 500 && t.share.settleTimer == some 2000 &&
      t.bus.tx.map (·.frame) == [.take 9 3 2 500]) = true := by decide

theorem test_set_day_locks :
    after (exec (.setDay [1, 75]) base) (fun t =>
      t.acct.mode == .contactLocked && t.alarm .contactLocked && t.rates.day == 331) = true := by
  decide

/-- Bits to a row, and a response to its bytes: the worked exchange of 11, and a code of no command. -/
theorem test_transaction_bytes :
    transactionRow (wholeBytes (([0x10, 2, 1, 45, 0, 0] : List Byte).flatMap byteBits ++ [true])) =
      .setDay [1, 45] ∧
    transactionRow [0x51, 1, 9] = .badCommand 0x51 [9] ∧ transactionRow [0x10] = .shortFrame [0x10] ∧
    transactionRow [0x10, 2, 1] = .shortFrame [0x10, 2, 1] ∧
    (ShiftOut.response ⟨.ok, [1, 45]⟩).bytes 6 = [0, 2, 1, 45, 0, 0] ∧
    ShiftOut.busy.bytes 3 = [255, 255, 255] := by decide

/-- The codes that name a command are those of the table. -/
theorem test_command_codes :
    ((List.range 256).filter fun c => (commandOf c []).isSome) =
      (List.range 256).filter knownCode := by decide

/-- A sample that brings a line to its Q reports the edge, and its owner keeps what the sample left. -/
theorem test_sample_reports_an_edge :
    after (step { printing run1 with
      lines := { (printing run1).lines with done := ⟨false, true, 3, true, true⟩ } }) (fun t =>
        t.lines.done == ⟨true, true, 0, true, true⟩ && t.pending == [.doneRise]) = true ∧
    (Qualifier.taken ⟨true, true, 1, false, false⟩ true) = ⟨true, true, 1, false, false⟩ := by decide

/-- Three high samples counted towards a Q of 4, Q then 2: the next sample takes the level though it is low,
counts at once, and the one after it brings the line low again (R186; assumption log 24). -/
theorem test_lowered_q_takes_the_level_and_counts :
    (Qualifier.sample ⟨false, true, 3, true, false⟩ 2 = ⟨true, true, 1, false, false⟩) ∧
    (Qualifier.sample ⟨true, true, 1, false, false⟩ 2 = ⟨false, true, 0, false, false⟩) := by decide

/-- The loaded frame is on CAN_TX; the record being sent is on the link, bit after bit. -/
theorem test_outputs_are_driven :
    (base.modBus fun b => { b with tx := [⟨.standing 1 2 0, true⟩] }).driveOutputs.outs.canTx =
      .sending 1543 [0, 0, 1, 0, 2, 0] ∧
    (base.modRuns fun u => { u with sending := [0x81] }).driveOutputs.outs.impData =
      [true, true, false, false, false, false, false, false, false, false, false, false, false, false,
        true, true, false] ∧
    (base.modRuns fun u => { u with sending := [0x81] }).driveOutputs.outs.impStrobe.length = 17 := by
  decide

/-- START JOB on an empty queue: the line's run prints in the same step (R104, R81). -/
theorem test_start_job_starts_its_run :
    after (exec (.startJob [0, 10, 0])
      { base with job := ⟨Memory.jobWrite [] 10 (jobLineBytes line1), base.job.walker⟩ }) (fun t =>
        t.runs.queue.map (·.state) == [.printing] && t.acct.held == 100 &&
        t.job.walker.run == some 1 && t.port.response == ⟨.ok, [1, 1, 0, 255, 255]⟩) = true := by decide

/-- STOP RUN of the walker's run faults the walker (R108); a WAITING walker takes the place that a run of
another leaves (R106). -/
theorem test_stop_run_tells_the_walker :
    after (exec (.stopRun [1]) { jammed with job := ⟨[], walker1⟩ }) (fun t =>
      t.job.walker.state == .faulted && t.job.walker.stopReason == .ended .stopped &&
      t.alarm .jobStopped) = true ∧
    after (exec (.stopRun [1])
      { jammed with job := ⟨[], { walker1 with state := .waiting, run := none }⟩ }) (fun t =>
        t.job.walker.state == .running && t.job.walker.run == some 2 &&
        t.runs.queue.map (·.id) == [2]) = true := by decide

/-- A resumed run that ends in the same step is still named in the answer (R109). -/
theorem test_resume_names_the_run :
    after (exec (.resumeJob []) ((heldJob .noCredit).modRuns fun u => { u with nextId := 9 })) (fun t =>
      t.port.response == ⟨.ok, [1, 9]⟩ && t.runs.queue.map (·.id) == [9]) = true ∧
    after (exec (.resumeJob []) { heldJob .noCredit with acct := { base.acct with avail := 99 } })
      (fun t => t.port.response.payload == [3, 1] && t.runs.queue == []) = true := by decide

/-- A list note answers REEL-ASK beside an EMPTY entry (R138). -/
theorem test_empty_entry_leaves_the_note_to_answer :
    after (exec (.reelAsk 9 5) ((stocked [{ reel1 with state := .empty }]).modStock fun u =>
      { u with released := [⟨5, 300, 50, 9⟩] })) (fun t =>
        t.bus.tx.map (·.frame) == [.reelNote .released 5 300 50]) = true ∧
    after (exec (.reelAsk 9 5) (stocked [{ reel1 with state := .empty }])) (fun t =>
      t.bus.tx == []) = true := by decide

theorem test_busy_is_shifted_out :
    after (exec (.transactionWhileBusy [0, 0]) base) (fun t =>
      t.port.spiOut == .busy && t.port.response == base.port.response) = true := by decide

end Sys2Proof.Tests
end

section
/-! SUPPORT. A new part, the record reads, the Grant Table's commands and CLOSE SLOT: what their bodies
answer and leave, and the statements about them settled. -/

namespace Sys2Proof.Machine

/-! ## Payload fields -/

/-- The one byte at a place of a payload, as a number; a place behind the payload reads 0. -/
theorem toNat_flagsByte (p : List Byte) (off : Nat) : (flagsByte p off).toNat = field p off 1 := by
  unfold flagsByte field
  rw [← List.head?_drop]
  cases p.drop off <;> simp [beNat]

/-- A bit of a flags byte, read off its number. -/
theorem getElem_flagsByte (p : List Byte) (off k : Nat) (h : k < 8) :
    (flagsByte p off)[k] = decide (field p off 1 / 2 ^ k % 2 = 1) := by
  rw [← toNat_flagsByte, BitVec.getElem_eq_testBit_toNat, Nat.testBit_eq_decide_div_mod_eq]

/-- The first and the second byte of a payload that is written out. -/
@[simp] theorem field_head (b : Byte) (rest : List Byte) : field (b :: rest) 0 1 = b.toNat := by
  simp [field, beNat]

@[simp] theorem field_second (b c : Byte) (rest : List Byte) : field (b :: c :: rest) 1 1 = c.toNat := by
  simp [field, beNat]

/-- A byte laid out again from its number. -/
@[simp] theorem beBytes_one_toNat (b : Byte) : beBytes 1 b.toNat = [b] := by
  simp [beBytes]

/-! ## Commands answered -/

/-- The checks of R181 pass for a command of the right length once configured, unless it is protected
and protection is ON. -/
theorem State.portCheck_pass {s : State} {row : CommandRow} {p : List Byte}
    (hl : row.minLen ≤ p.length ∧ p.length ≤ row.maxLen) (hc : s.configured = true)
    (hp : row.prot = true → s.port.protection = false) : s.portCheck row p = none :=
  State.portCheck_none.mpr ⟨hl, .inl hc, hp⟩

/-- A command of the right length that is not taken before configuration. -/
theorem State.portCheck_notConfigured {s : State} {row : CommandRow} {p : List Byte}
    (hl : row.minLen ≤ p.length ∧ p.length ≤ row.maxLen) (hc : s.configured = false)
    (hb : row.before = false) : s.portCheck row p = some .notConfigured := by
  simp [State.portCheck, hc, hb, Nat.not_lt.mpr hl.1, Nat.not_lt.mpr hl.2]

/-- A protected command of the right length under protection. -/
theorem State.portCheck_prot {s : State} {row : CommandRow} {p : List Byte}
    (hl : row.minLen ≤ p.length ∧ p.length ≤ row.maxLen) (hc : s.configured = true)
    (hr : row.prot = true) (hp : s.port.protection = true) : s.portCheck row p = some .prot := by
  simp [State.portCheck, hc, hr, hp, Nat.not_lt.mpr hl.1, Nat.not_lt.mpr hl.2]

/-- A command whose checks pass and whose body answers OK: the body's state with its port answered. -/
theorem State.runCommand_ok (s : State) {row : CommandRow} {p : List Byte} {u : State}
    {bytes : List Byte} (body : State → State × Response) (h : s.portCheck row p = none)
    (hb : body s.shiftOut = (u, ⟨.ok, bytes⟩)) :
    s.runCommand row p body =
      .next (u.modPort fun q => { q with response := ⟨.ok, bytes⟩, snapshot := none }).driveOutputs := by
  rw [s.runCommand_done body h, hb]
  rfl

/-- A command whose body refuses some payloads and else only reads. -/
theorem State.runCommand_read (s : State) {row : CommandRow} {p : List Byte} {bad : Prop}
    [Decidable bad] {bytes : List Byte} (body : State → State × Response)
    (h : s.portCheck row p = none)
    (hb : body s.shiftOut =
      if bad then (s.shiftOut, refusal .badArgument) else (s.shiftOut, ⟨.ok, bytes⟩)) :
    ∃ t, s.runCommand row p body = .next t ∧ (bad → Refused s t .badArgument) ∧
      (¬ bad → OnlyRead s t bytes) := by
  by_cases hbad : bad
  · obtain ⟨t, ht, hr⟩ := s.runCommand_bodyRefused body h (hb.trans (if_pos hbad)) (by decide)
    exact ⟨t, ht, fun _ => hr, fun h => absurd hbad h⟩
  · obtain ⟨t, ht, hr⟩ := s.runCommand_onlyRead body h (hb.trans (if_neg hbad))
    exact ⟨t, ht, fun h => absurd h hbad, fun _ => hr⟩

theorem State.alarm_eq {s t : State} (h : s.port.alarms = t.port.alarms) (a : Alarm) :
    s.alarm a = t.alarm a := by
  unfold State.alarm; rw [h]

/-! ## A new part -/

/-- Every grant of a new part is blank (R21). -/
theorem State.grant_reset (g : Nat) : State.reset.grant g = Grant.blank := by
  unfold State.grant State.reset
  by_cases hg : g - 1 < 63 <;> simp [hg]

/-- Every slot of a new part is blank (R39). -/
theorem State.slot_reset (i : Nat) : State.reset.slot i = Slot.blank := by
  unfold State.slot State.reset
  by_cases hi : i < 4 <;> simp [hi]

/-- No rate entry of a new part is present (R64). -/
theorem State.rates_reset (k : Nat) :
    State.reset.activeRate k = none ∧ State.reset.pendingRate k = none := by
  unfold State.activeRate State.pendingRate State.reset
  by_cases hk : k < 32 <;> simp [hk]

/-- Every line of a new part is low and unsettled (R186). -/
theorem LineBank.get_reset (l : Line) : State.reset.lines.get l = Qualifier.blank := by
  cases l <;> rfl

/-- Settles O4: the tables by their lemmas, every other field as State.reset writes it. -/
theorem resetIsANewPart : Obligations.ResetIsANewPart := by
  refine ⟨rfl, fun g _ => State.grant_reset g, rfl, fun i _ => State.slot_reset i, rfl, rfl,
    fun k _ => State.rates_reset k, rfl, rfl, rfl, rfl, rfl, fun _ _ => rfl, rfl, rfl, rfl, rfl, rfl,
    rfl, rfl, rfl, rfl, rfl, rfl, rfl, rfl, rfl, fun l _ => ?_, rfl, rfl⟩
  rw [LineBank.get_reset]
  exact ⟨rfl, rfl⟩

/-! ## READ RATES, READ GRANT, READ SLOT -/

/-- A rate entry's bytes (R193). -/
theorem rateBytes_eq (e : Option RateEntry) :
    rateBytes e =
      match e with
      | none => List.replicate 17 0
      | some e => 1 :: (beBytes 3 e.base ++ beBytes 2 e.baseWeight ++ beBytes 2 e.stepWeight ++
          beBytes 3 e.stepValue ++ beBytes 2 e.maxWeight ++ beBytes 2 e.threshold ++
          beBytes 2 e.discount) := by
  cases e <;> simp [rateBytes, byte, beBytes]

/-- A kind's code as a weight of its bit. -/
theorem Kind.code_mul (k : Kind) (n : Nat) : n * k.code = if k = .prepaid then n else 0 := by
  cases k <;> simp [Kind.code]

theorem Kind.code_eq (k : Kind) : k.code = if k = .prepaid then 1 else 0 := by
  cases k <;> rfl

/-- READ RATES carries the entry of the table named, whichever way the selector byte names it. -/
theorem State.ratesBytes_eq (s : State) (a b : Byte) :
    s.ratesBytes a.toNat b.toNat =
      a :: b :: (rateBytes (if a = 0 then s.activeRate b.toNat else s.pendingRate b.toNat) ++
        beBytes 2 s.rates.day ++ beBytes 2 (s.rates.effectiveDay.getD 0)) := by
  have ha : a.toNat = 0 ↔ a = 0 := by rw [← BitVec.toNat_inj]; rfl
  simp [State.ratesBytes, State.dayBytes, byte, orZero, ha, State.activeRate, State.pendingRate]

theorem State.grantBytes_eq (s : State) (a : Byte) :
    s.grantBytes a.toNat =
      a :: (beBytes 1 ((s.grant a.toNat).present.toNat +
          (if (s.grant a.toNat).kind = .prepaid then 2 else 0) +
          4 * (s.grant a.toNat).coarse.toNat + 8 * (s.grant a.toNat).accessed.toNat) ++
        beBytes 2 (s.grant a.toNat).dept ++ beBytes 3 (s.grant a.toNat).amount ++
        beBytes 1 (s.grant a.toNat).level ++ beBytes 4 (s.grant a.toNat).spent ++
        beBytes 4 (s.grant a.toNat).spentLast ++ beBytes 4 (s.grant a.toNat).imprints ++
        beBytes 4 (s.grant a.toNat).stamps ++ beBytes 4 (s.grant a.toNat).effective ++
        beBytes 2 s.grants.period ++ beBytes 1 ((s.slotHolding a.toNat).getD 255)) := by
  simp [State.grantBytes, Grant.flagBits, byte, orOnes, Kind.code_mul]

theorem State.slotBytes_eq (s : State) (i : Nat) :
    s.slotBytes i =
      beBytes 1 (s.slot i).state.code ++ beBytes 1 (s.slot i).grant ++ beBytes 1 (s.slot i).level ++
        beBytes 1 (if (s.slot i).kind = .prepaid then 1 else 0) ++ beBytes 4 (s.slot i).effective ++
        beBytes 4 (s.slot i).spentAtOpen ++ beBytes 4 (s.slot i).printDelta ++
        beBytes 4 (s.slot i).stockDelta ++ beBytes 4 (s.slot i).imprints ++
        beBytes 4 (s.slot i).stamps ++ beBytes 4 (s.slot i).lateIssues ++
        beBytes 1 ((s.slot i).boundA.toNat + 2 * (s.slot i).boundB.toNat) ++
        beBytes 1 ((s.slot i).run.getD 0) ++ beBytes 1 (s.slot i).closeReason.code ++
        beBytes 1 (s.slot i).clampActed.toNat ++ beBytes 4 (s.slot i).headroom ++
        beBytes 1 (s.runs.queue.countP fun r => r.slot == i) := by
  simp [State.slotBytes, byte, yesNo, orZero, Slot.boundCode, Kind.code_eq, State.runsOfSlot,
    List.countP_eq_length_filter]

theorem readRatesBody_eq (a b : Byte) (s : State) :
    readRatesBody [a, b] s =
      if 1 < a.toNat ∨ 31 < b.toNat then (s, refusal .badArgument)
      else (s, ⟨.ok, s.ratesBytes a.toNat b.toNat⟩) := by
  simp [readRatesBody]

theorem readGrantBody_eq (a : Byte) (s : State) :
    readGrantBody [a] s =
      if 63 < a.toNat then (s, refusal .badArgument) else (s, ⟨.ok, s.grantBytes a.toNat⟩) := by
  simp [readGrantBody]

theorem readSlotBody_eq (a : Byte) (s : State) :
    readSlotBody [a] s =
      if 3 < a.toNat then (s, refusal .badArgument) else (s, ⟨.ok, s.slotBytes a.toNat⟩) := by
  simp [readSlotBody]

/-- Settles O9: each body reads and answers the bytes that R193 and R195 lay out. -/
theorem recordReadsCarryTheRecord : Obligations.RecordReadsCarryTheRecord := by
  intro s a b hc
  refine ⟨?_, ?_, ?_⟩
  · obtain ⟨t, ht, hbad, hok⟩ := s.runCommand_read _
      (State.portCheck_pass (row := .readRates) (p := [a, b]) (by simp [CommandRow.readRates]) hc nofun)
      (readRatesBody_eq a b s.shiftOut)
    rw [State.ratesBytes_eq, rateBytes_eq] at hok
    exact ⟨t, ht, hbad, fun ha hb => hok (by omega)⟩
  · obtain ⟨t, ht, hbad, hok⟩ := s.runCommand_read _
      (State.portCheck_pass (row := .readGrant) (p := [a]) (by simp [CommandRow.readGrant]) hc nofun)
      (readGrantBody_eq a s.shiftOut)
    rw [State.grantBytes_eq] at hok
    exact ⟨t, ht, hbad, fun ha => hok (by omega)⟩
  · obtain ⟨t, ht, hbad, hok⟩ := s.runCommand_read _
      (State.portCheck_pass (row := .readSlot) (p := [a]) (by simp [CommandRow.readSlot]) hc nofun)
      (readSlotBody_eq a s.shiftOut)
    rw [State.slotBytes_eq] at hok
    exact ⟨t, ht, hbad, fun ha => hok (by omega)⟩

/-! ## WRITE GRANT -/

/-- Checks 3 to 5 of R32 in the numbers of the payload. -/
theorem grantPayloadOk_iff (p : List Byte) :
    grantPayloadOk p = true ↔
      ¬ (16 ≤ field p 1 1 ∨ 1048575 < field p 4 3 ∨ 3 < field p 7 1 ∨
        (field p 1 1 % 2 = 1 ∧ field p 2 2 = 0) ∨
        (field p 1 1 / 2 % 2 = 1 ∧ field p 1 1 / 4 % 2 = 1)) := by
  simp [grantPayloadOk, grantOfPayload, getElem_flagsByte, toNat_flagsByte, and_assoc,
    imp_iff_not_or]

/-- The record that a WRITE GRANT payload carries, field by field (R32, R193). -/
theorem grantOfPayload_eq (p : List Byte) (old : Grant) :
    grantOfPayload p old =
      ⟨decide (field p 1 1 % 2 = 1), field p 2 2,
        if field p 1 1 / 2 % 2 = 1 then .prepaid else .capped, decide (field p 1 1 / 4 % 2 = 1),
        field p 4 3, field p 7 1, decide (field p 1 1 / 8 % 2 = 1), field p 8 4, old.spentLast,
        old.imprints, old.stamps⟩ := by
  simp [grantOfPayload, getElem_flagsByte]

/-- A grant record written moves nothing but the Grant Table. -/
theorem State.setGrant_eq (s : State) (g : Nat) (r : Grant) :
    s.setGrant g r = { s with grants := (s.setGrant g r).grants } := by
  unfold State.setGrant; split <;> rfl

theorem writeGrantBody_null {p : List Byte} {s : State} (h : field p 0 1 = 0) :
    writeGrantBody p s = (s, refusal .nullGrant) := by
  simp [writeGrantBody, h]

theorem writeGrantBody_bad {p : List Byte} {s : State} (h0 : field p 0 1 ≠ 0)
    (h : 63 < field p 0 1 ∨ grantPayloadOk p = false) :
    writeGrantBody p s = (s, refusal .badArgument) := by
  simp [writeGrantBody, h0, h]

theorem writeGrantBody_ok {p : List Byte} {s : State} (h0 : field p 0 1 ≠ 0) (h : field p 0 1 ≤ 63)
    (hok : grantPayloadOk p = true) :
    writeGrantBody p s = (s.setGrant (field p 0 1) (grantOfPayload p (s.grant (field p 0 1))),
      okResponse) := by
  simp [writeGrantBody, h0, hok, Nat.not_lt.mpr h]

/-- Settles O20: the three checks of R32 in their order, and the record read back. -/
theorem grantIsWrittenWhole : Obligations.GrantIsWrittenWhole := by
  intro s p hlen hc hp flags bad
  have hpass : s.portCheck .writeGrant p = none :=
    State.portCheck_pass (by simp [hlen, CommandRow.writeGrant]) hc fun _ => hp
  have hok : grantPayloadOk p = true ↔ ¬ bad := grantPayloadOk_iff p
  by_cases h0 : field p 0 1 = 0
  · obtain ⟨t, ht, hr⟩ := s.runCommand_bodyRefused _ hpass (writeGrantBody_null h0) (by decide)
    exact ⟨t, ht, fun _ => hr, fun h => absurd h0 h, fun h => absurd h0 h⟩
  · by_cases hbad : 63 < field p 0 1 ∨ bad
    · have hb : 63 < field p 0 1 ∨ grantPayloadOk p = false :=
        hbad.imp_right fun h => Bool.eq_false_iff.mpr fun hg => hok.mp hg h
      obtain ⟨t, ht, hr⟩ := s.runCommand_bodyRefused _ hpass (writeGrantBody_bad h0 hb) (by decide)
      exact ⟨t, ht, fun h => absurd h h0, fun _ _ => hr,
        fun _ hle hgood => absurd hbad (by rintro (h | h); exacts [Nat.not_lt.mpr hle h, hgood h])⟩
    · have hle : field p 0 1 ≤ 63 := by by_contra h; exact hbad (.inl (by omega))
      have hgood : grantPayloadOk p = true := hok.mpr fun h => hbad (.inr h)
      refine ⟨_, s.runCommand_ok _ hpass (writeGrantBody_ok h0 hle hgood), fun h => absurd h h0,
        fun _ h => absurd h hbad, fun _ _ _ => ⟨?_, by simp, ?_, fun g hg hne => ?_⟩⟩
      · rw [State.setGrant_eq]; rfl
      · rw [← grantOfPayload_eq]
        exact (State.grant_setGrant s.shiftOut _ _ _).trans (if_pos ⟨rfl, h0, by omega⟩)
      · exact (State.grant_setGrant s.shiftOut _ _ _).trans (if_neg fun h => hne h.1)

/-! ## CLOSE PERIOD -/

theorem State.allIdle_iff (s : State) :
    s.allIdle = true ↔ ∀ i < 4, (s.slot i).state = .idle := by
  simp only [State.allIdle, List.all_eq_true, beq_iff_eq]
  constructor
  · intro h i hi
    exact h i (by interval_cases i <;> simp)
  · intro h i hi
    exact h i (by simp at hi; omega)

/-- What grant record g reads as once the period has been closed; record 0 is fixed (R23, R37). -/
theorem State.grant_closePeriod (s : State) {g : Nat} (h : g < 64) :
    ({ s with grants := s.grants.closePeriod } : State).grant g =
      if g = 0 then s.grant 0 else (s.grant g).closePeriod := by
  unfold State.grant GrantTable.closePeriod
  by_cases hg : g = 0
  · simp [hg]
  · have hlt : g - 1 < 63 := by omega
    simp [hg, hlt]

theorem closePeriodBody_open {s : State} (h : ¬ ∀ i < 4, (s.slot i).state = .idle) :
    closePeriodBody s = (s, refusal .slotsOpen) :=
  if_neg fun hi => h (s.allIdle_iff.mp hi)

theorem closePeriodBody_idle {s : State} (h : ∀ i < 4, (s.slot i).state = .idle) :
    closePeriodBody s =
      ({ s with grants := s.grants.closePeriod }, ⟨.ok, beBytes 2 ((s.grants.period + 1) % 65536)⟩) :=
  if_pos (s.allIdle_iff.mpr h)

/-- Settles O21: the checks of R181, then the two answers of R37. -/
theorem periodClosesForEveryGrant : Obligations.PeriodClosesForEveryGrant := by
  intro s
  have hlen : CommandRow.closePeriod.minLen ≤ ([] : List Byte).length ∧
      ([] : List Byte).length ≤ CommandRow.closePeriod.maxLen := by decide
  cases hc : s.configured with
  | false =>
    obtain ⟨t, ht, hr⟩ := s.runCommand_onlyAnswered closePeriodBody
      (State.portCheck_notConfigured hlen hc rfl)
    exact ⟨t, ht, fun _ => hr, nofun, nofun⟩
  | true =>
    cases hp : s.port.protection with
    | true =>
      obtain ⟨t, ht, hr⟩ := s.runCommand_onlyAnswered closePeriodBody
        (State.portCheck_prot hlen hc rfl hp)
      exact ⟨t, ht, nofun, fun _ _ => hr, nofun⟩
    | false =>
      have hpass : s.portCheck .closePeriod [] = none := State.portCheck_pass hlen hc fun _ => hp
      by_cases hi : ∀ i < 4, (s.slot i).state = .idle
      · refine ⟨_, s.runCommand_ok _ hpass (closePeriodBody_idle (s := s.shiftOut) hi), nofun, nofun,
          fun _ _ => ⟨fun h => absurd hi h, fun _ => ⟨rfl, rfl, ?_, fun g hg h0 => ?_⟩⟩⟩
        · exact (s.shiftOut.grant_closePeriod (by decide)).trans (if_pos rfl)
        · exact (s.shiftOut.grant_closePeriod hg).trans (if_neg h0)
      · obtain ⟨t, ht, hr⟩ := s.runCommand_bodyRefused _ hpass
          (closePeriodBody_open (s := s.shiftOut) hi) (by decide)
        exact ⟨t, ht, nofun, nofun, fun _ _ => ⟨fun _ => hr, fun h => absurd h hi⟩⟩

/-! ## The close of a slot -/

/-- Whether the clamp of R34 acts when slot i returns its usage to its grant. -/
def State.closeClamps (s : State) (i : Nat) : Bool :=
  (s.slot i).grant != 0 && (s.grant (s.slot i).grant).clamps (s.slot i)

theorem State.closeClamps_iff (s : State) (i : Nat) :
    s.closeClamps i = true ↔
      (s.slot i).grant ≠ 0 ∧ (s.grant (s.slot i).grant).kind = .prepaid ∧
        (s.grant (s.slot i).grant).amount < (s.slot i).printDelta + (s.slot i).stockDelta := by
  simp only [State.closeClamps, Grant.clamps, Bool.and_eq_true, bne_iff_ne, ne_eq, beq_iff_eq,
    decide_eq_true_iff]
  rfl

/-- What slot j reads as once slot i has closed (R51). -/
theorem State.slot_closeSlot (s : State) (i j : Nat) (c : CloseReason) :
    (s.closeSlot i c).slot j =
      if j = i ∧ i < 4 then
        { s.slot i with
          state := .idle, boundA := false, boundB := false, run := none, closeReason := c
          clampActed := s.closeClamps i }
      else s.slot j := by
  have hs : (s.setGrant (s.slot i).grant ((s.grant (s.slot i).grant).takeUsage (s.slot i))).slot j =
      s.slot j := State.slot_eq (by simp) j
  rw [← hs, ← State.slot_setSlot]
  exact State.slot_eq (by simp [State.closeSlot, State.closeClamps]) j

/-- What grant record g reads as once slot i has closed: its own has the usage returned (R34, R51). -/
theorem State.grant_closeSlot (s : State) (i g : Nat) (c : CloseReason) :
    (s.closeSlot i c).grant g =
      if g = (s.slot i).grant ∧ (s.slot i).grant ≠ 0 ∧ (s.slot i).grant < 64 then
        (s.grant (s.slot i).grant).takeUsage (s.slot i)
      else s.grant g := by
  rw [← State.grant_setGrant]
  exact State.grant_eq (by simp [State.closeSlot]) g

/-- A close moves at most the alarm word of the port, GRANT_SHORT being raised when the clamp acts. -/
theorem State.port_closeSlot (s : State) (i : Nat) (c : CloseReason) :
    (s.closeSlot i c).port = (s.raiseIf (s.closeClamps i) .grantShort).port := by
  simp [State.closeSlot, State.closeClamps]

/-- A close moves nothing but the Grant Table, the slots and the port. -/
theorem State.closeSlot_eq (s : State) (i : Nat) (c : CloseReason) :
    s.closeSlot i c = { s with
      grants := (s.closeSlot i c).grants, slots := (s.closeSlot i c).slots
      port := (s.closeSlot i c).port } := by
  obtain ⟨hacct, hrates, hruns, hjob, hstock, hbus, hshare, hrefill, hlines, houts, hpending, -⟩ :=
    s.closeSlot_frame i c
  cases h : s.closeSlot i c
  simp_all

/-- What an IDLE slot's CLOSE SLOT answers (R48). -/
theorem Slot.closeBytes_idle {sl : Slot} (h : sl.state = .idle) :
    sl.closeBytes =
      beBytes 1 0 ++ beBytes 4 sl.printDelta ++ beBytes 4 sl.stockDelta ++ beBytes 4 sl.imprints ++
      beBytes 4 sl.stamps ++ beBytes 4 sl.lateIssues ++
      beBytes 1 (if sl.clampActed = true then 1 else 0) := by
  cases hc : sl.clampActed <;>
    simp [Slot.closeBytes, h, hc, orOnes, yesNo, byte, SlotState.code]

theorem State.runsOfSlot_eq_zero {s : State} {i : Nat} :
    s.runsOfSlot i = 0 ↔ ∀ r ∈ s.runs.queue, r.slot ≠ i := by
  simp [State.runsOfSlot, List.filter_eq_nil_iff]

/-- CLOSE SLOT of an OPEN slot without runs closes it, with or without abandon (R48). -/
theorem closeSlotBody_noRuns {i a : Byte} {s : State} (hi : i.toNat ≤ 3) (ha : a.toNat ≤ 1)
    (ho : (s.slot i.toNat).state = .opened) (hr : ∀ r ∈ s.runs.queue, r.slot ≠ i.toNat) :
    closeSlotBody [i, a] s =
      (s.closeSlot i.toNat .close,
        ⟨.ok, ((s.closeSlot i.toNat .close).slot i.toNat).closeBytes⟩) := by
  have h0 : s.runsOfSlot i.toNat = 0 := State.runsOfSlot_eq_zero.mpr hr
  simp [closeSlotBody, Nat.not_lt.mpr hi, Nat.not_lt.mpr ha, ho, h0]

/-- Settles O24: the close of R51, read back slot by slot and grant by grant. -/
theorem closeSlotReturnsItsUsage : Obligations.CloseSlotReturnsItsUsage := by
  intro s i a hc hi ha ho hr hg sl gr clamp
  have hpass : s.portCheck .closeSlot [i, a] = none :=
    State.portCheck_pass (by simp [CommandRow.closeSlot]) hc nofun
  have hi4 : i.toNat < 4 := by omega
  have hclamp : s.shiftOut.closeClamps i.toNat = decide clamp := by
    rw [Bool.eq_iff_iff, State.closeClamps_iff, decide_eq_true_iff]; rfl
  have hslot : (s.shiftOut.closeSlot i.toNat .close).slot i.toNat = { sl with
      state := .idle, boundA := false, boundB := false, run := none, closeReason := .close
      clampActed := decide clamp } := by
    rw [State.slot_closeSlot, if_pos ⟨rfl, hi4⟩, hclamp]; rfl
  have hport : (s.shiftOut.closeSlot i.toNat .close).port =
      (s.shiftOut.raiseIf (decide clamp) .grantShort).port := by
    rw [State.port_closeSlot, hclamp]
  refine ⟨_, s.runCommand_ok _ hpass (closeSlotBody_noRuns (s := s.shiftOut) hi ha ho hr), ?_, hslot,
    fun j _ hne => ?_, ?_, fun g _ hne => ?_, fun h0 => ?_, fun h => ?_, ?_, fun h => ?_⟩
  · rw [State.closeSlot_eq]; rfl
  · exact (s.shiftOut.slot_closeSlot i.toNat j .close).trans (if_neg fun h => hne h.1)
  · simp
  · refine (s.shiftOut.grant_closeSlot i.toNat g .close).trans (if_neg fun h => ?_)
    exact hne.elim (fun hne => hne h.1) fun h0 => h.2.1 (h.1.symm.trans h0)
  · exact (s.shiftOut.grant_closeSlot i.toNat _ .close).trans (if_pos ⟨rfl, h0, hg⟩)
  · rw [decide_eq_true h] at hport
    exact (State.alarm_eq (congrArg (·.alarms) hport) .grantShort).trans
      (s.shiftOut.alarm_raise_self .grantShort)
  · rw [hslot, Slot.closeBytes_idle rfl]
    simp [hport, State.portAfter, sl]
  · rw [decide_eq_false h] at hport
    exact (congrArg (·.alarms) hport :)

/-! ## CLOSE SLOT with abandon -/

/-- A run of slot 0 whose end is pending, its last imprint in flight. -/
def stoppingRun : Run :=
  ⟨1, .command, 0, 255, some 100, 20, some 2, false, false, [], 100, 0, 0, 0, [], .stopping,
    some .stopped⟩

/-- A configured station with that run alone in its queue, slot 0 OPEN, and an ended count of 65,536:
one above the range of R95, which no premise of the statement asks for. -/
def countAboveRange : State :=
  { State.reset with
    acct := { State.reset.acct with held := 100, control := 100 }
    slots := State.reset.slots.setIfInBounds 0 { Slot.blank with state := .opened }
    runs := { State.reset.runs with
      queue := [stoppingRun], nextId := 2, inFlight := some ⟨1, 1, 100, .enabled⟩
      mechTimer := some 3000, endedCount := 65536 }
    port := { State.reset.port with
      settings := some ⟨7, 125, 200000, 500, 1500, 100, 5000, 5, 30, 4, 4⟩ } }

/-- The state satisfies what the statement asks of an abandon in which no run leaves. -/
theorem countAboveRange_premises :
    countAboveRange.configured = true ∧ (countAboveRange.slot (0 : Byte).toNat).state ≠ .idle ∧
    QueueLaw countAboveRange :=
  ⟨rfl, by decide, by decide, by decide, by decide, rfl, stoppingRun, rfl, rfl, rfl, rfl⟩

/-- Its one run is STOPPING already, so the abandon ends none, and the count stays as it is. -/
theorem countAboveRange_kept {t : State} (h : exec (.closeSlot [0, 1]) countAboveRange = .next t) :
    t.runs.endedCount = 65536 := by
  cases h; rfl

/-- Refutes O25: where no run leaves, the outcome it spells out holds the ended count modulo 65,536,
while the part leaves the count as it stands. The two differ at 65,536, a number that the type of the
state allows and the range of R95 does not; no premise of the statement keeps the count in range. -/
theorem not_closeSlotWaitsForItsRuns : ¬ Obligations.CloseSlotWaitsForItsRuns := by
  intro h
  obtain ⟨hc, ho, hq⟩ := countAboveRange_premises
  obtain ⟨t, ht, -, hmain⟩ := h countAboveRange 0 1 hc
  obtain ⟨-, -, -, habandon⟩ := hmain (by decide) (by decide)
  obtain ⟨-, hspelled⟩ := habandon ho rfl ⟨stoppingRun, by decide, rfl⟩ hq
    (.inl (by rintro r ⟨⟩ hr; cases hr))
  obtain ⟨m, hm, -, -, -, -, -, hstarts⟩ := hspelled fun _ (hr : _ ∈ []) => nomatch hr
  have hruns : m.runs.endedCount = 0 ∧ m.runs.queue = [stoppingRun] := by
    rw [hm]; exact ⟨rfl, rfl⟩
  have hlast : t = { m with outs := t.outs } :=
    (hstarts 1).1 fun r hr hs => by
      rw [hruns.2] at hr
      obtain rfl : stoppingRun = r := by simpa using hr
      cases hs
  have hzero : t.runs.endedCount = 0 := by rw [hlast]; exact hruns.1
  rw [countAboveRange_kept ht] at hzero
  cases hzero

end Sys2Proof.Machine
end

section
/-! SUPPORT. The Slot Unit: the headroom (R44), OPEN SLOT (R41, R42) and BIND FEEDER (R54), what their bodies
answer and what each slot and grant reads as afterwards. -/

namespace Sys2Proof.Machine

/-! ## The headroom -/

/-- A slot that is IDLE or on grant 0 has none (R44). -/
theorem Slot.headroom_zero {sl : Slot} (h : sl.state = .idle ∨ sl.grant = 0) : sl.headroom = 0 :=
  if_pos h

/-- What a CAPPED grant leaves (R44). -/
theorem Slot.headroom_capped {sl : Slot} (h : ¬ (sl.state = .idle ∨ sl.grant = 0))
    (hk : sl.kind = .capped) :
    sl.headroom = sl.effective - sl.spentAtOpen - sl.printDelta - sl.stockDelta := by
  rw [Slot.headroom, if_neg h, hk]

/-- What a PREPAID grant leaves (R44). -/
theorem Slot.headroom_prepaid {sl : Slot} (h : ¬ (sl.state = .idle ∨ sl.grant = 0))
    (hk : sl.kind = .prepaid) : sl.headroom = sl.effective - sl.printDelta - sl.stockDelta := by
  rw [Slot.headroom, if_neg h, hk]

/-- The headroom is never above the cached effective amount. -/
theorem Slot.headroom_le (sl : Slot) : sl.headroom ≤ sl.effective := by
  by_cases h : sl.state = .idle ∨ sl.grant = 0
  · rw [Slot.headroom_zero h]; exact Nat.zero_le _
  · cases hk : sl.kind with
    | capped => rw [Slot.headroom_capped h hk]; omega
    | prepaid => rw [Slot.headroom_prepaid h hk]; omega

/-- Settles O22: the three cases of R44, the exact subtraction being a natural number's. -/
theorem headroomComesFromTheCachedCopy : Obligations.HeadroomComesFromTheCachedCopy := by
  intro sl
  refine ⟨Slot.headroom_zero, fun hs hg => ⟨fun hk => ?_, fun hk => ?_⟩, sl.headroom_le.trans⟩
  · rw [Slot.headroom_capped (by simp [hs, hg]) hk]; omega
  · rw [Slot.headroom_prepaid (by simp [hs, hg]) hk]; omega

/-! ## OPEN SLOT -/

/-- No slot holds a grant from 1 to 63 (R43). -/
theorem State.slotHolding_eq_none {s : State} {g : Nat} (hg : g ≠ 0) :
    s.slotHolding g = none ↔ ¬ ∃ j < 4, (s.slot j).state ≠ .idle ∧ (s.slot j).grant = g := by
  unfold State.slotHolding
  rw [if_neg hg, List.find?_eq_none]
  simp only [Bool.and_eq_true, bne_iff_ne, beq_iff_eq, not_exists, not_and]
  constructor
  · intro h j hj
    exact h j (by interval_cases j <;> simp)
  · intro h j hj
    exact h j (by simp at hj; omega)

/-- What slot j reads as once slot i has been opened (R42). -/
theorem State.slot_openSlot (s : State) (i g l j : Nat) :
    (s.openSlot i g l).slot j =
      if j = i ∧ i < 4 then (s.slot i).openOn g l (s.grant g) else s.slot j := by
  rw [← State.slot_setSlot]
  exact State.slot_eq (by simp [State.openSlot]) j

/-- What grant record k reads as once a slot has been opened on grant g: its own is marked accessed (R30). -/
theorem State.grant_openSlot (s : State) (i g l k : Nat) :
    (s.openSlot i g l).grant k =
      if k = g ∧ g ≠ 0 ∧ g < 64 then { s.grant g with accessed := true } else s.grant k :=
  (State.grant_setGrant _ g k _).trans rfl

/-- An open moves the Grant Table and the slots only. -/
theorem State.openSlot_eq (s : State) (i g l : Nat) :
    s.openSlot i g l =
      { s with grants := (s.openSlot i g l).grants, slots := (s.openSlot i g l).slots } := by
  unfold State.openSlot
  rw [State.setGrant_eq]
  rfl

/-- OPEN SLOT answers a status without effect, or opens the slot and answers its headroom (R41). -/
theorem openSlotBody_refused {i g l : Byte} {s : State} {st : Status}
    (h : s.openSlotCheck i.toNat g.toNat l.toNat = some st) :
    openSlotBody [i, g, l] s = (s, refusal st) := by
  have hl : field [i, g, l] 2 1 = l.toNat := by simp [field, beNat]
  simp [openSlotBody, hl, h]

theorem openSlotBody_ok {i g l : Byte} {s : State}
    (h : s.openSlotCheck i.toNat g.toNat l.toNat = none) :
    openSlotBody [i, g, l] s =
      (s.openSlot i.toNat g.toNat l.toNat,
        ⟨.ok, beBytes 4 ((s.openSlot i.toNat g.toNat l.toNat).slot i.toNat).headroom⟩) := by
  have hl : field [i, g, l] 2 1 = l.toNat := by simp [field, beNat]
  simp [openSlotBody, hl, h]

/-- The check of the ranges comes first (R41). -/
theorem State.openSlotCheck_range {s : State} {i g l : Nat} (h : 3 < i ∨ 63 < g ∨ 3 < l) :
    s.openSlotCheck i g l = some .badArgument := if_pos h

/-- The checks that follow it (R41). -/
theorem State.openSlotCheck_inRange (s : State) {i g l : Nat} (hi : i ≤ 3) (hg : g ≤ 63)
    (hl : l ≤ 3) :
    s.openSlotCheck i g l =
      if (s.slot i).state ≠ .idle then some .slotOpen
      else if g = 0 then none
      else if (s.grant g).present = false then some .grantAbsent
      else if (s.grant g).level < l then some .level
      else if (s.slotHolding g).isSome then some .grantInUse
      else none := by
  unfold State.openSlotCheck
  rw [if_neg (by omega)]
  simp only [Bool.not_eq_true']

/-- No check answers OK. -/
theorem State.openSlotCheck_ne_ok (s : State) (i g l : Nat) : s.openSlotCheck i g l ≠ some .ok := by
  unfold State.openSlotCheck
  (repeat' split) <;> nofun

/-- A command whose body makes one check: refused with the status it answers, else carried out. -/
theorem State.runCommand_checked (s : State) {row : CommandRow} {p : List Byte}
    {body : State → State × Response} {check : Option Status} {u : State} {bytes : List Byte}
    (h : s.portCheck row p = none) (hne : check ≠ some .ok)
    (hbad : ∀ st, check = some st → body s.shiftOut = (s.shiftOut, refusal st))
    (hok : check = none → body s.shiftOut = (u, ⟨.ok, bytes⟩)) :
    ∃ t, s.runCommand row p body = .next t ∧ (∀ st, check = some st → Refused s t st) ∧
      (check = none → t =
        (u.modPort fun q => { q with response := ⟨.ok, bytes⟩, snapshot := none }).driveOutputs) := by
  cases check with
  | none => exact ⟨_, s.runCommand_ok body h (hok rfl), nofun, fun _ => rfl⟩
  | some st =>
    obtain ⟨t, ht, hr⟩ := s.runCommand_bodyRefused body h (hbad st rfl) fun e => hne (e ▸ rfl)
    exact ⟨t, ht, fun _ e => Option.some.inj e ▸ hr, nofun⟩

/-- Settles O23: the checks of R41 in their order, and the slot and the grant read back. -/
theorem openSlotCachesTheGrant : Obligations.OpenSlotCachesTheGrant := by
  intro s i g level hc gr taken
  have hg0 : g ≠ 0 ↔ g.toNat ≠ 0 := by rw [ne_eq, ← BitVec.toNat_inj]; rfl
  obtain ⟨t, ht, hrefused, hopened⟩ := s.runCommand_checked (body := openSlotBody [i, g, level])
    (check := s.shiftOut.openSlotCheck i.toNat g.toNat level.toNat)
    (State.portCheck_pass (row := .openSlot) (p := [i, g, level]) (by simp [CommandRow.openSlot]) hc
      nofun)
    (s.shiftOut.openSlotCheck_ne_ok _ _ _) (fun _ => openSlotBody_refused) openSlotBody_ok
  refine ⟨t, ht, fun h => hrefused _ (State.openSlotCheck_range h), fun hi hg hl => ?_⟩
  have hcheck : s.shiftOut.openSlotCheck i.toNat g.toNat level.toNat =
      if (s.slot i.toNat).state ≠ .idle then some .slotOpen
      else if g.toNat = 0 then none
      else if gr.present = false then some .grantAbsent
      else if gr.level < level.toNat then some .level
      else if (s.slotHolding g.toNat).isSome then some .grantInUse
      else none := s.shiftOut.openSlotCheck_inRange hi hg hl
  have hheld : g.toNat ≠ 0 → ((s.slotHolding g.toNat).isSome = true ↔ taken) := fun h0 => by
    rw [← not_iff_not, Bool.not_eq_true, Option.isSome_eq_false_iff, Option.isNone_iff_eq_none]
    exact State.slotHolding_eq_none h0
  rw [hg0]
  refine ⟨fun hs => hrefused _ (hcheck.trans (if_pos hs)), fun hs => ⟨fun h0 hp => hrefused _ ?_,
    fun h0 hp hlt => hrefused _ ?_, fun h0 hp hle htaken => hrefused _ ?_, fun hfree => ?_⟩⟩
  · simp [hcheck, hs, h0, hp]
  · simp [hcheck, hs, h0, hp, hlt]
  · simp [hcheck, hs, h0, hp, Nat.not_lt.mpr hle, (hheld h0).mpr htaken]
  · have hnone : s.shiftOut.openSlotCheck i.toNat g.toNat level.toNat = none := by
      rw [hcheck, if_neg (not_not_intro hs)]
      by_cases h0 : g.toNat = 0
      · exact if_pos h0
      · obtain ⟨hp, hle, hn⟩ := hfree.resolve_left (hg0.mpr h0)
        simp [h0, hp, Nat.not_lt.mpr hle, mt (hheld h0).mp hn]
    have hi4 : i.toNat < 4 := by omega
    rw [hopened hnone]
    have hslot := s.shiftOut.slot_openSlot i.toNat g.toNat level.toNat
    have hgrant := s.shiftOut.grant_openSlot i.toNat g.toNat level.toNat
    refine ⟨?_, (hslot _).trans (if_pos ⟨rfl, hi4⟩),
      fun j _ hne => (hslot j).trans (if_neg fun h => hne h.1), ?_,
      fun h0 => (hgrant _).trans (if_pos ⟨rfl, h0, by omega⟩),
      fun k _ hne => (hgrant k).trans (if_neg fun h => ?_)⟩
    · rw [State.openSlot_eq]; rfl
    · simp [State.openSlot]
    · exact hne.elim (fun hne => hne h.1) fun h0 => h.2.1 (h.1.symm.trans h0)

/-! ## BIND FEEDER -/

/-- What slot j reads as once a feeder is bound to no slot (R54). -/
theorem State.slot_unbind (s : State) (f : Feeder) (j : Nat) :
    (s.unbind f).slot j = (s.slot j).setBound f false := by
  unfold State.slot State.unbind
  by_cases hj : j < 4
  · simp [hj]
  · cases f <;> simp [hj, Slot.setBound, Slot.blank]

/-- What slot j reads as once a feeder is bound to slot i alone (R54). -/
theorem State.slot_bind (s : State) (f : Feeder) {i : Nat} (hi : i < 4) (j : Nat) :
    (s.bind f i).slot j = (s.slot j).setBound f (decide (j = i)) := by
  unfold State.bind
  rw [State.slot_modSlot]
  by_cases hj : j = i
  · subst hj
    rw [if_pos ⟨rfl, hi⟩, State.slot_unbind]
    cases f <;> simp [Slot.setBound]
  · rw [if_neg fun h => hj h.1, State.slot_unbind, decide_eq_false hj]

/-- The feeder that a code up to 1 names. -/
theorem feederOf_toNat {f : Byte} (h : f.toNat ≤ 1) :
    feederOf f.toNat = some (if f = 0 then .a else .b) := by
  have hf : f = 0 ∨ f = 1 := by
    rcases Nat.le_one_iff_eq_zero_or_eq_one.mp h with h | h
    · exact .inl (BitVec.eq_of_toNat_eq h)
    · exact .inr (BitVec.eq_of_toNat_eq h)
  rcases hf with rfl | rfl <;> rfl

/-- A slot record with the feeder that a code names bound or not. -/
theorem Slot.setBound_code (sl : Slot) (f : Byte) (b : Bool) :
    sl.setBound (if f = 0 then .a else .b) b =
      if f = 0 then { sl with boundA := b } else { sl with boundB := b } := by
  split <;> rfl

/-- The status for which BIND FEEDER is refused, with the feeder code and the target in range or not
(R54). -/
def State.bindCheck (s : State) (f i : Nat) : Option Status :=
  if 1 < f ∨ (3 < i ∧ i ≠ 255) then some .badArgument
  else if i = 255 then none
  else
    match (s.slot i).state with
    | .idle => some .slotIdle
    | .closing => some .slotClosing
    | .opened => none

theorem State.bindCheck_ne_ok (s : State) (f i : Nat) : s.bindCheck f i ≠ some .ok := by
  unfold State.bindCheck
  (repeat' split) <;> nofun

/-- BIND FEEDER in the terms of that check. -/
theorem bindFeederBody_eq (f i : Byte) (s : State) :
    bindFeederBody [f, i] s =
      match s.bindCheck f.toNat i.toNat with
      | some st => (s, refusal st)
      | none =>
        (if i.toNat = 255 then s.unbind (if f = 0 then .a else .b)
          else s.bind (if f = 0 then .a else .b) i.toNat, okResponse) := by
  unfold bindFeederBody State.bindCheck
  simp only [field_head, field_second]
  by_cases hf : f.toNat ≤ 1
  · rw [feederOf_toNat hf]
    by_cases hi : i.toNat = 255
    · simp [hi, Nat.not_lt.mpr hf]
    · by_cases h3 : 3 < i.toNat
      · simp [hi, h3]
      · cases hs : (s.slot i.toNat).state <;> simp [hi, h3, Nat.not_lt.mpr hf]
  · have hnone : feederOf f.toNat = none := by
      unfold feederOf
      split <;> first | omega | rfl
    rw [hnone, if_pos (.inl (by omega))]

/-- Settles O26: the checks of R54, and each slot read back. -/
theorem feederIsBoundToOneSlot : Obligations.FeederIsBoundToOneSlot := by
  intro s f i
  have hlen : CommandRow.bindFeeder.minLen ≤ [f, i].length ∧
      [f, i].length ≤ CommandRow.bindFeeder.maxLen := by simp [CommandRow.bindFeeder]
  cases hc : s.configured with
  | false =>
    obtain ⟨t, ht, hr⟩ := s.runCommand_onlyAnswered (bindFeederBody [f, i])
      (State.portCheck_notConfigured hlen hc rfl)
    exact ⟨t, ht, fun _ => hr, nofun⟩
  | true =>
    obtain ⟨t, ht, hrefused, hbound⟩ := s.runCommand_checked (body := bindFeederBody [f, i])
      (check := s.shiftOut.bindCheck f.toNat i.toNat)
      (State.portCheck_pass (row := .bindFeeder) hlen hc nofun)
      (s.shiftOut.bindCheck_ne_ok _ _) (fun st h => by rw [bindFeederBody_eq, h])
      (fun h => by rw [bindFeederBody_eq, h]; rfl)
    refine ⟨t, ht, nofun, fun _ => ⟨fun hbad => hrefused _ (if_pos hbad), fun hf hi => ?_,
      fun hf hi => ?_⟩⟩
    · have hnone : s.shiftOut.bindCheck f.toNat i.toNat = none := by
        rw [State.bindCheck, if_neg (by omega), if_pos hi]
      rw [hbound hnone, if_pos hi]
      refine ⟨rfl, fun j _ => ?_⟩
      exact (s.shiftOut.slot_unbind _ j).trans (Slot.setBound_code _ f false)
    · have hcheck : s.shiftOut.bindCheck f.toNat i.toNat =
          match (s.slot i.toNat).state with
          | .idle => some .slotIdle
          | .closing => some .slotClosing
          | .opened => none := by
        rw [State.bindCheck, if_neg (by omega), if_neg (by omega)]; rfl
      refine ⟨fun hs => hrefused _ (by rw [hcheck, hs]), fun hs => hrefused _ (by rw [hcheck, hs]),
        fun hs => ?_⟩
      rw [hbound (by rw [hcheck, hs]), if_neg (by omega)]
      refine ⟨rfl, fun j _ => ?_⟩
      exact (s.shiftOut.slot_bind _ (by omega) j).trans (Slot.setBound_code _ f _)

end Sys2Proof.Machine
end

section
/-! SUPPORT. The laws of the tables, kept by every operation (R43, R54, R98, R120, R124, R150, R151, R189). -/

namespace Sys2Proof.Machine

/-! ## The relation -/

/-- Each law of the tables that holds in s holds in t. -/
structure TablesKept (s t : State) : Prop where
  grants : GrantsHeldOnce s → GrantsHeldOnce t
  feeders : FeedersBoundOnce s → FeedersBoundOnce t
  transfers : TransferLimits s → TransferLimits t
  peers : PeerTableLaw s → PeerTableLaw t
  queue : TransmitQueueLaw s → TransmitQueueLaw t
  memory : JobMemoryWf s → JobMemoryWf t
  alarms : AlarmBitsDefined s → AlarmBitsDefined t

theorem TablesKept.refl (s : State) : TablesKept s s := ⟨id, id, id, id, id, id, id⟩

theorem TablesKept.trans {s t u : State} (h : TablesKept s t) (k : TablesKept t u) : TablesKept s u :=
  ⟨k.grants ∘ h.grants, k.feeders ∘ h.feeders, k.transfers ∘ h.transfers, k.peers ∘ h.peers,
    k.queue ∘ h.queue, k.memory ∘ h.memory, k.alarms ∘ h.alarms⟩

/-! ## One record -/

/-- What a change of a slot record may do without touching the laws: a slot that is not IDLE afterwards
was not IDLE before and keeps its grant; a feeder bound afterwards was bound before; and a slot that
becomes IDLE has none. -/
structure SlotKept (old new : Slot) : Prop where
  held : new.state ≠ .idle → old.state ≠ .idle ∧ new.grant = old.grant
  bound : ∀ f, new.bound f = true → old.bound f = true
  freed : new.state = .idle → old.state = .idle ∨ (new.boundA = false ∧ new.boundB = false)

/-- A change that leaves the state, the grant and the feeders. -/
theorem SlotKept.of_eq {old new : Slot} (hs : new.state = old.state) (hg : new.grant = old.grant)
    (ha : new.boundA = old.boundA) (hb : new.boundB = old.boundB) : SlotKept old new :=
  ⟨fun h => ⟨hs ▸ h, hg⟩, fun f => by cases f <;> simp [Slot.bound, ha, hb],
    fun h => .inl (hs ▸ h)⟩

theorem GrantsHeldOnce.setSlot {s : State} (h : GrantsHeldOnce s) {i : Nat} {sl : Slot}
    (hk : sl.state ≠ .idle → (s.slot i).state ≠ .idle ∧ sl.grant = (s.slot i).grant) :
    GrantsHeldOnce (s.setSlot i sl) := by
  have old : ∀ j, ((s.setSlot i sl).slot j).state ≠ .idle → (s.slot j).state ≠ .idle ∧
      ((s.setSlot i sl).slot j).grant = (s.slot j).grant := by
    intro j hj
    rw [State.slot_setSlot] at hj ⊢
    by_cases hi : j = i ∧ i < 4
    · rw [if_pos hi] at hj ⊢; rw [hi.1]; exact hk hj
    · rw [if_neg hi] at hj ⊢; exact ⟨hj, rfl⟩
  intro a ha b hb hsa hsb hg h0
  obtain ⟨ha', hga⟩ := old a hsa
  obtain ⟨hb', hgb⟩ := old b hsb
  exact h a ha b hb ha' hb' (hga ▸ hgb ▸ hg) (hga ▸ h0)

/-- A slot replaced, its feeders among those it had, and none left to one that becomes IDLE. -/
theorem FeedersBoundOnce.setSlotBound {s : State} (h : FeedersBoundOnce s) {i : Nat} {sl : Slot}
    (hbound : ∀ f, sl.bound f = true → (s.slot i).bound f = true)
    (hfreed : sl.state = .idle → (s.slot i).state = .idle ∨ (sl.boundA = false ∧ sl.boundB = false)) :
    FeedersBoundOnce (s.setSlot i sl) := by
  obtain ⟨once, idle⟩ := h
  have old : ∀ j f, ((s.setSlot i sl).slot j).bound f = true → (s.slot j).bound f = true := by
    intro j f hj
    rw [State.slot_setSlot] at hj
    by_cases hi : j = i ∧ i < 4
    · rw [if_pos hi] at hj; rw [hi.1]; exact hbound f hj
    · rwa [if_neg hi] at hj
  have free : ∀ j < 4, (s.slot j).state = .idle → ∀ f, ((s.setSlot i sl).slot j).bound f = false := by
    intro j hj hidle f
    obtain ⟨hA, hB⟩ := idle j hj hidle
    refine Bool.eq_false_iff.mpr fun hb => ?_
    have hb := old j f hb
    cases f <;> simp [Slot.bound, hA, hB] at hb
  refine ⟨fun f hf a ha b hb hba hbb => once f hf a ha b hb (old a f hba) (old b f hbb),
    fun j hj hs => ?_⟩
  by_cases hi : j = i ∧ i < 4
  · have hs' : sl.state = .idle := by rwa [State.slot_setSlot, if_pos hi] at hs
    rcases hfreed hs' with hidle | hfree
    · exact ⟨free j hj (hi.1 ▸ hidle) .a, free j hj (hi.1 ▸ hidle) .b⟩
    · rwa [State.slot_setSlot, if_pos hi]
  · have hs' : (s.slot j).state = .idle := by rwa [State.slot_setSlot, if_neg hi] at hs
    exact ⟨free j hj hs' .a, free j hj hs' .b⟩

/-- No alarm stands in bits 29 to 31. -/
theorem Alarm.word_defined (a : Alarm) : a.word &&& ~~~alarmBits = 0 := by
  cases a <;> decide

/-! ## Updates that no law sees, and those of one record -/

section
variable {s t : State} (h : TablesKept s t)
include h

theorem TablesKept.acct (a : Accounts) : TablesKept s { t with acct := a } :=
  h.trans ⟨id, id, id, id, id, id, id⟩

theorem TablesKept.rates (u : RateUnit) : TablesKept s { t with rates := u } :=
  h.trans ⟨id, id, id, id, id, id, id⟩

theorem TablesKept.refill (u : RefillUnit) : TablesKept s { t with refill := u } :=
  h.trans ⟨id, id, id, id, id, id, id⟩

theorem TablesKept.grantTable (g : GrantTable) : TablesKept s { t with grants := g } :=
  h.trans ⟨id, id, id, id, id, id, id⟩

theorem TablesKept.setGrant (g : Nat) (r : Grant) : TablesKept s (t.setGrant g r) :=
  State.setGrant_eq t g r ▸ h.grantTable _

theorem TablesKept.modRuns (f : RunUnit → RunUnit) : TablesKept s (t.modRuns f) :=
  h.trans ⟨id, id, id, id, id, id, id⟩

theorem TablesKept.modRun (id' : Nat) (f : Run → Run) : TablesKept s (t.modRun id' f) :=
  h.modRuns _

theorem TablesKept.modWalker (f : Walker → Walker) : TablesKept s (t.modWalker f) :=
  h.trans ⟨id, id, id, id, id, id, id⟩

theorem TablesKept.modStock (f : StockUnit → StockUnit) : TablesKept s (t.modStock f) :=
  h.trans ⟨id, id, id, id, id, id, id⟩

theorem TablesKept.takeLevel (l : Line) (b : Bool) : TablesKept s (t.takeLevel l b) :=
  h.trans ⟨id, id, id, id, id, id, id⟩

theorem TablesKept.driveOutputs : TablesKept s t.driveOutputs :=
  h.trans ⟨id, id, id, id, id, id, id⟩

/-- The port changed with bits 29 to 31 of the alarm word and of the mask left at zero. -/
theorem TablesKept.modPort (f : PortUnit → PortUnit)
    (ha : t.port.alarms &&& ~~~alarmBits = 0 → (f t.port).alarms &&& ~~~alarmBits = 0)
    (hm : t.port.mask &&& ~~~alarmBits = 0 → (f t.port).mask &&& ~~~alarmBits = 0) :
    TablesKept s (t.modPort f) :=
  h.trans ⟨id, id, id, id, id, id, fun ⟨x, y⟩ => ⟨ha x, hm y⟩⟩

theorem TablesKept.raise (a : Alarm) : TablesKept s (t.raise a) :=
  h.modPort _ (fun ha => by rw [BitVec.and_or_distrib_right, ha, a.word_defined]; rfl) id

theorem TablesKept.raiseIf (c : Bool) (a : Alarm) : TablesKept s (t.raiseIf c a) := by
  unfold State.raiseIf
  split
  · exact h.raise a
  · exact h

theorem TablesKept.setSlot {i : Nat} {sl : Slot} (hk : SlotKept (t.slot i) sl) :
    TablesKept s (t.setSlot i sl) :=
  h.trans ⟨fun x => x.setSlot hk.held, fun x => x.setSlotBound hk.bound hk.freed,
    id, id, id, id, id⟩

theorem TablesKept.modSlot {i : Nat} {f : Slot → Slot} (hk : SlotKept (t.slot i) (f (t.slot i))) :
    TablesKept s (t.modSlot i f) :=
  h.setSlot hk

/-- The Sharing Unit changed within the limits of its tables. -/
theorem TablesKept.modShare (f : SharingUnit → SharingUnit)
    (hl : TransferLimits t → TransferLimits (t.modShare f)) : TablesKept s (t.modShare f) :=
  h.trans ⟨id, id, hl, id, id, id, id⟩

/-- The Sharing Unit changed with no table longer; an open want counts as R151 has it. -/
theorem TablesKept.modShare_le (f : SharingUnit → SharingUnit)
    (hu : (f t.share).unresolved.length + (f t.share).want.isSome.toNat ≤
      t.share.unresolved.length + t.share.want.isSome.toNat)
    (hp : (f t.share).pledges.length ≤ t.share.pledges.length)
    (ho : (f t.share).outRecord.length + (f t.share).pledges.length ≤
      t.share.outRecord.length + t.share.pledges.length) :
    TablesKept s (t.modShare f) :=
  h.modShare f fun ⟨x, y, z⟩ => ⟨hu.trans x, hp.trans y, ho.trans z⟩

/-- The Bus Interface changed but for its peers. -/
theorem TablesKept.modBus (f : BusUnit → BusUnit) (hp : (f t.bus).peers = t.bus.peers)
    (hq : TransmitQueueLaw t → TransmitQueueLaw (t.modBus f)) : TablesKept s (t.modBus f) :=
  h.trans ⟨id, id, id, fun x => by unfold PeerTableLaw; rw [State.modBus_bus, hp]; exact x, hq, id, id⟩

/-- The peers changed. -/
theorem TablesKept.modPeers (f : List Peer → List Peer)
    (hf : (t.bus.peers.map (·.station)).Pairwise (· < ·) →
      ((f t.bus.peers).map (·.station)).Pairwise (· < ·)) :
    TablesKept s (t.modBus fun b => { b with peers := f b.peers }) :=
  h.trans ⟨id, id, id, hf, id, id, id⟩

end

end Sys2Proof.Machine
end

section
/-! SUPPORT. The laws of the tables: the transmit queue (R120, R121). -/

namespace Sys2Proof.Machine

/-! ## The transmit queue -/

/-- A queue in order stays so when its entries change but not their frames' codes. -/
theorem sorted_map_of_code {l : List TxEntry} {g : TxEntry → TxEntry}
    (hg : ∀ e ∈ l, (g e).frame.code = e.frame.code)
    (h : (l.map fun e => e.frame.code).Pairwise (· ≤ ·)) :
    ((l.map g).map fun e => e.frame.code).Pairwise (· ≤ ·) := by
  rw [List.map_map]
  rwa [List.map_congr_left (g := fun e => e.frame.code) hg]

/-- A frame put in its place waits, so that no more are loaded than before. -/
theorem loaded_txInsert (f : BusFrame) (l : List TxEntry) :
    ((txInsert f l).filter (·.loaded)).length = (l.filter (·.loaded)).length := by
  induction l with
  | nil => rfl
  | cons d rest ih =>
    unfold txInsert
    split
    · rfl
    · simp only [List.filter_cons]; split <;> simp [ih]

/-- With none loaded, loading the front loads one. -/
theorem loaded_txLoad {l : List TxEntry} (h : ∀ e ∈ l, e.loaded = false) :
    ((txLoad l).filter (·.loaded)).length ≤ 1 := by
  cases l with
  | nil => simp [txLoad]
  | cons d rest =>
    have hr : rest.filter (·.loaded) = [] :=
      List.filter_eq_nil_iff.mpr fun e he => by simp [h e (List.mem_cons_of_mem _ he)]
    simp [txLoad, hr]

theorem TransmitQueueLaw.loadFront {t : State} (q : TransmitQueueLaw t)
    (h : ∀ e ∈ t.bus.tx, e.loaded = false) :
    TransmitQueueLaw (t.modBus fun b => { b with tx := txLoad b.tx }) := by
  obtain ⟨hlen, -, hord, hnone⟩ := q
  refine ⟨by simpa using hlen, loaded_txLoad h, ?_, fun hs => ?_⟩
  · have hf := congrArg (List.map BusFrame.code) (frames_txLoad t.bus.tx)
    simp only [List.map_map] at hf
    exact hf ▸ hord
  · simp [hnone hs, txLoad]

theorem TransmitQueueLaw.insert {t : State} (q : TransmitQueueLaw t) {f : BusFrame}
    (hl : t.bus.tx.length < 16) (hs : t.busSends = true) {g : BusUnit → BusUnit}
    (hg : (g t.bus).tx = txInsert f t.bus.tx) (hst : (g t.bus).state = t.bus.state) :
    TransmitQueueLaw (t.modBus g) := by
  obtain ⟨hlen, hload, hord, -⟩ := q
  have hsends : (t.modBus g).busSends = true := (State.busSends_congr hst).trans hs
  unfold TransmitQueueLaw
  rw [State.modBus_bus, hg]
  exact ⟨by simp; omega, by rwa [loaded_txInsert], sorted_txInsert hord,
    fun hn => absurd hn (by simp [hsends])⟩

/-- A change of the queue's entries that loads none and keeps their codes. -/
theorem TransmitQueueLaw.map {t : State} (q : TransmitQueueLaw t) {m : TxEntry → TxEntry}
    (hc : ∀ e ∈ t.bus.tx, (m e).frame.code = e.frame.code)
    (hm : ∀ e ∈ t.bus.tx, (m e).loaded = true → e.loaded = true) {g : BusUnit → BusUnit}
    (hg : (g t.bus).tx = t.bus.tx.map m) (hst : (g t.bus).state = t.bus.state) :
    TransmitQueueLaw (t.modBus g) := by
  obtain ⟨hlen, hload, hord, hnone⟩ := q
  have hsends : (t.modBus g).busSends = t.busSends := State.busSends_congr hst
  unfold TransmitQueueLaw
  rw [State.modBus_bus, hg, hsends]
  refine ⟨by simpa using hlen, ?_, sorted_map_of_code hc hord, fun hs => by simp [hnone hs]⟩
  rw [← List.countP_eq_length_filter] at hload ⊢
  rw [List.countP_map]
  exact (List.countP_mono_left fun e he h => hm e he h).trans hload

/-- Entries taken out of the queue. -/
theorem TransmitQueueLaw.filter {t : State} (q : TransmitQueueLaw t) {p : TxEntry → Bool}
    {g : BusUnit → BusUnit} (hg : (g t.bus).tx = t.bus.tx.filter p)
    (hst : (g t.bus).state = t.bus.state) : TransmitQueueLaw (t.modBus g) := by
  obtain ⟨hlen, hload, hord, hnone⟩ := q
  have hsends : (t.modBus g).busSends = t.busSends := State.busSends_congr hst
  have hsub : (t.bus.tx.filter p).Sublist t.bus.tx := List.filter_sublist
  unfold TransmitQueueLaw
  rw [State.modBus_bus, hg, hsends]
  exact ⟨hsub.length_le.trans hlen, (hsub.filter _).length_le.trans hload,
    hord.sublist (hsub.map _), fun hs => by simp [hnone hs]⟩

/-- The queue of a station that sends is bound to no state. -/
theorem TransmitQueueLaw.sends {t : State} (q : TransmitQueueLaw t) {g : BusUnit → BusUnit}
    (hg : (g t.bus).tx = t.bus.tx) (hs : (t.modBus g).busSends = true) :
    TransmitQueueLaw (t.modBus g) := by
  obtain ⟨hlen, hload, hord, -⟩ := q
  unfold TransmitQueueLaw
  rw [State.modBus_bus, hg]
  exact ⟨hlen, hload, hord, fun hn => absurd hn (by simp [hs])⟩

theorem TransmitQueueLaw.empty {t : State} {g : BusUnit → BusUnit} (hg : (g t.bus).tx = []) :
    TransmitQueueLaw (t.modBus g) := by
  unfold TransmitQueueLaw
  rw [State.modBus_bus, hg]
  exact ⟨by simp, by simp, by simp, fun _ => rfl⟩

theorem TxEntry.waitingStanding_code {e : TxEntry} (h : e.waitingStanding = true) :
    e.frame.code = 48 := by
  unfold TxEntry.waitingStanding at h
  rcases e with ⟨f, l⟩
  cases f <;> simp_all [BusFrame.code]

section
variable {s t : State} (h : TablesKept s t)
include h

/-- What the law does not read of the Bus Interface. -/
theorem TablesKept.modBusRest (f : BusUnit → BusUnit) (hp : (f t.bus).peers = t.bus.peers)
    (ht : (f t.bus).tx = t.bus.tx) (hs : (f t.bus).state = t.bus.state) :
    TablesKept s (t.modBus f) :=
  h.modBus f hp fun q => q.filter (p := fun _ => true) (by simpa using ht) hs

theorem TablesKept.loadFront : TablesKept s t.loadFront := by
  unfold State.loadFront
  split
  · rename_i hc
    simp only [Bool.and_eq_true, List.all_eq_true, Bool.not_eq_true'] at hc
    exact h.modBus _ rfl fun q => q.loadFront hc.2
  · exact h

theorem TablesKept.enqueue (f : BusFrame) : TablesKept s (t.enqueue f) := by
  rcases t.enqueue_cases f with ⟨-, e⟩ | ⟨-, -, e⟩ | ⟨hs, hl, e⟩ | ⟨-, -, e⟩ <;> rw [e]
  · exact h
  · exact h
  · exact h.modBus _ rfl fun q => q.insert hl hs rfl rfl
  · exact h.raise _

theorem TablesKept.handOver (f : BusFrame) : TablesKept s (t.handOver f) :=
  (h.enqueue f).loadFront

/-- A frame handed over for every entry of a list. -/
theorem TablesKept.foldl {α : Type} {f : State → α → State}
    (hf : ∀ {u : State}, TablesKept s u → ∀ a, TablesKept s (f u a)) (l : List α) :
    TablesKept s (l.foldl f t) := by
  induction l generalizing t with
  | nil => exact h
  | cons a l ih => exact ih (hf h a)

theorem TablesKept.resendSettled : TablesKept s t.resendSettled :=
  h.foldl (fun k a => k.enqueue a.settled) _

theorem TablesKept.placeStanding (hs : t.busSends = true) : TablesKept s t.placeStanding := by
  unfold State.placeStanding
  dsimp only
  split
  · refine h.modBus _ rfl fun q => q.map
      (m := fun e => if e.waitingStanding then ⟨t.formStanding, false⟩ else e)
      (fun e _ => ?_) (fun e _ => ?_) rfl rfl
    · split
      · rename_i hw; exact (TxEntry.waitingStanding_code hw).symm
      · rfl
    · split <;> simp
  · split
    · rename_i hl
      exact h.modBus _ rfl fun q => q.insert hl hs rfl rfl
    · exact h.raise _

theorem TablesKept.handStanding : TablesKept s t.handStanding := by
  unfold State.handStanding
  split
  · rename_i hs
    exact ((h.placeStanding hs).modBusRest _ rfl rfl rfl).resendSettled.loadFront
  · exact h

theorem TablesKept.evalStanding : TablesKept s t.evalStanding := by
  unfold State.evalStanding
  split
  · exact h.handStanding
  · exact h

theorem TablesKept.enterJoining (on : Bool) : TablesKept s (t.enterJoining on) :=
  (h.modBus _ rfl fun q => q.sends rfl rfl).handStanding

theorem TablesKept.frameNotSent : TablesKept s t.frameNotSent := by
  unfold State.frameNotSent
  split
  · refine TablesKept.loadFront (h.modBus _ rfl fun q => ?_)
    have hf := q.filter (p := fun e => !(e.loaded && t.bus.tx.any (·.waitingStanding) &&
      e.frame.code == 48)) (g := fun b => { b with tx := b.tx.filter fun e =>
        !(e.loaded && t.bus.tx.any (·.waitingStanding) && e.frame.code == 48) }) rfl rfl
    exact hf.map (m := fun e => ⟨e.frame, false⟩) (fun _ _ => rfl) (fun _ _ hl => by simp at hl)
      (g := fun b => { b with tx := b.tx.map fun e => ⟨e.frame, false⟩ }) rfl rfl
  · exact h

theorem TablesKept.busOff : TablesKept s t.busOff := by
  unfold State.busOff
  split
  · exact (h.modBus _ rfl fun _ => .empty rfl).raise _
  · exact h

theorem TablesKept.controllerReturn : TablesKept s t.controllerReturn := by
  unfold State.controllerReturn
  split
  · exact (h.modBusRest _ rfl rfl rfl).loadFront
  · exact h

theorem TablesKept.standingExpiry : TablesKept s t.standingExpiry := by
  unfold State.standingExpiry
  split
  · exact (h.modBusRest _ rfl rfl rfl).handStanding
  · exact h

end

end Sys2Proof.Machine
end

section
/-! SUPPORT. The laws of the tables: postings, wants, slots, runs and imprints. -/

namespace Sys2Proof.Machine

/-! ## Postings and wants -/

section
variable {s t : State} (h : TablesKept s t)
include h

theorem TablesKept.post (p : Posting) : TablesKept s (t.post p) := (h.acct _).raiseIf _ _

/-- A want opened takes the place that the conditions of R154 find free. -/
theorem TablesKept.openWant (hc : t.wantConditions = true) : TablesKept s t.openWant := by
  have hfree : t.share.unresolved.length < 4 := by
    simp only [State.wantConditions, Bool.and_eq_true, decide_eq_true_iff] at hc
    exact hc.1.1.2
  have hopen := h.modShare
    (fun u => { u with
      want := some ⟨nextNumber t.share.lastWant, t.wantAmount, t.share.request.isSome, none⟩
      lastWant := nextNumber t.share.lastWant, request := none, wantWindow := some 1000 })
    fun ⟨_, hpledges, hout⟩ => ⟨hfree, hpledges, hout⟩
  exact (hopen.handOver _).evalStanding

theorem TablesKept.evalWant : TablesKept s t.evalWant := by
  unfold State.evalWant
  split
  · rename_i hc
    split
    · exact h.openWant hc
    · split
      · exact (h.modShare_le _ le_rfl le_rfl le_rfl).raise _
      · exact h
  · exact h

theorem TablesKept.afterAvail : TablesKept s t.afterAvail := h.evalStanding.evalWant

theorem TablesKept.closeWant : TablesKept s t.closeWant :=
  h.modShare_le _ (Nat.add_le_add_left (Nat.zero_le _) _) le_rfl le_rfl

theorem TablesKept.enterExhausted : TablesKept s t.enterExhausted :=
  (((h.acct _).raise _).modShare_le _ le_rfl le_rfl le_rfl |>.raiseIf _ _).afterAvail

theorem TablesKept.dayAdvance (day : Nat) : TablesKept s (t.dayAdvance day) :=
  h.trans ⟨id, id, id, id, id, id, id⟩

theorem TablesKept.evalContact : TablesKept s t.evalContact := by
  unfold State.evalContact
  split
  · exact h
  · dsimp only
    split
    · exact h
    · exact ((h.acct _).raiseIf _ _).raiseIf _ _

/-! ## Slots and runs -/

theorem TablesKept.closeSlot (i : Nat) (c : CloseReason) : TablesKept s (t.closeSlot i c) :=
  ((h.setGrant _ _).setSlot
    ⟨fun hs => absurd rfl hs, fun f => by cases f <;> simp [Slot.bound], fun _ => .inr ⟨rfl, rfl⟩⟩
    ).raiseIf _ _

theorem TablesKept.slotRunEnded (i id : Nat) : TablesKept s (t.slotRunEnded i id) := by
  have hrun := h.modSlot (i := i) (f := fun sl => if sl.run = some id then { sl with run := none } else sl)
    (by split <;> exact .of_eq rfl rfl rfl rfl)
  unfold State.slotRunEnded
  dsimp only
  split
  · exact hrun.closeSlot i _
  · exact hrun

theorem TablesKept.slotRunStarted (r : Run) : TablesKept s (t.slotRunStarted r) := by
  refine h.modSlot ?_
  split
  · rename_i ho
    exact ⟨fun _ => ⟨by simp [ho.2], rfl⟩, fun f => by cases f <;> exact id, fun hs => nomatch hs⟩
  · exact .of_eq rfl rfl rfl rfl

theorem TablesKept.appendRun (r : Run) : TablesKept s (t.appendRun r) := h.modRuns _

theorem TablesKept.walkerFault (r : StopReason) : TablesKept s (t.walkerFault r) :=
  (h.modWalker _).raise _

theorem TablesKept.walkerAppend : TablesKept s t.walkerAppend := by
  unfold State.walkerAppend
  split
  · exact h
  · split
    · split
      · exact (h.appendRun _).modWalker _
      · exact h.modWalker _
    · exact h.walkerFault _

theorem TablesKept.walkerFetch (a : Nat) (x y : Bool) : TablesKept s (t.walkerFetch a x y) := by
  unfold State.walkerFetch
  split
  · exact (h.modWalker _).walkerFault _
  · exact ((h.modWalker _).modWalker _).walkerAppend

theorem TablesKept.walkerNext : TablesKept s t.walkerNext := h.walkerFetch _ _ _

theorem TablesKept.walkerFollow (c : LineCopy) : TablesKept s (t.walkerFollow c) := by
  unfold State.walkerFollow
  split
  · exact (h.modWalker _).raise _
  · split
    · exact (h.modWalker _).raise _
    · exact h.walkerNext

theorem TablesKept.walkerRunEnded (r : EndReason) (n : Nat) :
    TablesKept s (t.walkerRunEnded r n) := by
  unfold State.walkerRunEnded
  dsimp only
  split
  · exact (h.modWalker _).modWalker _
  · split
    · exact h.modWalker _
    · split
      · exact ((h.modWalker _).modWalker _).walkerFollow _
      · exact ((h.modWalker _).modWalker _).raise _
      · exact (h.modWalker _).walkerFault _

theorem TablesKept.walkerPlaceFree : TablesKept s t.walkerPlaceFree := by
  unfold State.walkerPlaceFree
  split
  · exact h.walkerAppend
  · exact h

theorem TablesKept.tellWalker (r : Run) (x : EndReason) : TablesKept s (t.tellWalker r x) := by
  unfold State.tellWalker
  split
  · exact h.walkerRunEnded _ _
  · exact h

theorem TablesKept.runEnd (id : Nat) (x : EndReason) : TablesKept s (t.runEnd id x) := by
  unfold State.runEnd
  split
  · exact h
  · exact ((((h.modRuns _).raise _).slotRunEnded _ _).tellWalker _ _).walkerPlaceFree

theorem TablesKept.authorisePost (r : Run) : TablesKept s (t.authorisePost r) :=
  (((h.post _).modSlot (.of_eq rfl rfl rfl rfl)).modRuns _).afterAvail

theorem TablesKept.authorise (id : Nat) : TablesKept s (t.authorise id) := by
  unfold State.authorise
  split
  · exact h
  · split
    · exact h.authorisePost _
    · split
      · exact h.enterExhausted.runEnd _ _
      · exact h.runEnd _ _

theorem TablesKept.runStart (r : Run) : TablesKept s (t.runStart r) := by
  unfold State.runStart
  dsimp only
  split
  · exact (h.slotRunStarted r).runEnd _ _
  · split
    · exact ((h.slotRunStarted r).modRun _ _).runEnd _ _
    · exact ((h.slotRunStarted r).modRun _ _).authorise _

theorem TablesKept.startLoop (ending : List Nat) (n : Nat) :
    TablesKept s (State.startLoop ending n t) := by
  induction n generalizing t with
  | zero => exact h
  | succ n ih =>
    unfold State.startLoop
    split
    · exact h
    · split
      · exact h
      · exact ih (h.runStart _)

theorem TablesKept.considerStart : TablesKept s t.considerStart := h.startLoop _ _

theorem TablesKept.afterMode (m : Mode) : TablesKept s (t.afterMode m) := by
  unfold State.afterMode
  split
  · exact h
  · split
    · exact h.afterAvail.considerStart
    · exact h.afterAvail

theorem TablesKept.endRequest (id : Nat) (x : EndReason) : TablesKept s (t.endRequest id x) := by
  unfold State.endRequest
  split
  · exact h
  · split
    · exact h.runEnd _ _
    · exact h.runEnd _ _
    · split
      · exact h.modRun _ _
      · exact h.runEnd _ _
    · exact h

theorem TablesKept.abandonRuns (ids : List Nat) : TablesKept s (State.abandonRuns ids t) := by
  induction ids generalizing t with
  | nil => exact h
  | cons id rest ih => exact ih ((h.endRequest _ _).startLoop _ _)

theorem TablesKept.abandonSlot {i : Nat} (hi : (t.slot i).state ≠ .idle) :
    TablesKept s (t.abandonSlot i) := by
  have hclosing : SlotKept (t.slot i)
      { t.slot i with state := .closing, closeReason := .abandon } :=
    ⟨fun _ => ⟨hi, rfl⟩, fun f => by cases f <;> exact id, fun hs => nomatch hs⟩
  have hall := ((h.modSlot (f := fun sl => { sl with state := .closing, closeReason := .abandon })
    hclosing).abandonRuns ((t.runs.queue.filter fun r => r.slot == i).map (·.id))).considerStart
  unfold State.abandonSlot
  dsimp only
  split
  · exact hall.closeSlot _ _
  · exact hall

/-! ## Outcomes -/

theorem TablesKept.afterFailure (id : Nat) : TablesKept s (t.afterFailure id) := by
  unfold State.afterFailure
  split
  · exact h
  · split
    · exact h.runEnd _ _
    · exact (h.modRun _ _).raise _

theorem TablesKept.afterDone (id : Nat) : TablesKept s (t.afterDone id) := by
  unfold State.afterDone
  split
  · exact h
  · split
    · exact h.runEnd _ _
    · split
      · exact h.authorise _
      · split
        · exact h.runEnd _ _
        · exact h.authorise _

theorem TablesKept.imprintDone (f : InFlight) : TablesKept s (t.imprintDone f) :=
  ((((h.post _).modRuns _).modRun _ _).afterDone _).considerStart

theorem TablesKept.refundSlot (id v : Nat) : TablesKept s (t.refundSlot id v) := by
  unfold State.refundSlot
  split
  · exact h
  · exact h.modSlot (.of_eq rfl rfl rfl rfl)

theorem TablesKept.imprintFailedClean (f : InFlight) : TablesKept s (t.imprintFailedClean f) :=
  ((((((h.post _).refundSlot _ _).modRuns _).afterAvail).modRun _ _).afterFailure _).considerStart

theorem TablesKept.imprintUncertain (f : InFlight) : TablesKept s (t.imprintUncertain f) :=
  ((((h.post _).modRuns _).modRun _ _).afterFailure _).considerStart

theorem TablesKept.doneRise : TablesKept s t.doneRise := by
  unfold State.doneRise
  dsimp only
  split
  · exact (h.takeLevel _ _).raise _
  · exact (h.takeLevel _ _).imprintDone _

theorem TablesKept.faultRise : TablesKept s t.faultRise := by
  unfold State.faultRise
  dsimp only
  split
  · exact (h.takeLevel _ _).raise _
  · split
    · exact (h.takeLevel _ _).imprintFailedClean _
    · exact (h.takeLevel _ _).imprintUncertain _

theorem TablesKept.mechExpiry : TablesKept s t.mechExpiry := by
  unfold State.mechExpiry
  split
  · exact (h.modRuns _).raise _
  · exact (h.imprintUncertain _).raise _

theorem TablesKept.serviceFall : TablesKept s t.serviceFall :=
  (h.takeLevel _ _).modPort _ id id

end

end Sys2Proof.Machine
end

section
/-! SUPPORT. The laws of the tables: credit between stations (R149 to R151) and the stamp stock. -/

namespace Sys2Proof.Machine

/-! ## Credit between stations -/

/-- An entry made OPEN takes its own place in the pledge table, else one more. -/
theorem length_putOffer (x w a : Nat) (o : Offer) (l : List PledgeEntry) :
    (putOffer x w a o l).length = if l.any (·.isFor x w) then l.length else l.length + 1 := by
  unfold putOffer
  split <;> simp

/-- It keeps the limits of R149 and R150 where the entry stands or a place is free. -/
theorem putOffer_limits {x w n : Nat} (a : Nat) (o : Offer) {l : List PledgeEntry}
    (hroom : l.any (·.isFor x w) = true ∨ (l.length < 4 ∧ n + l.length < 8))
    (hp : l.length ≤ 4) (hn : n + l.length ≤ 8) :
    (putOffer x w a o l).length ≤ 4 ∧ n + (putOffer x w a o l).length ≤ 8 := by
  rw [length_putOffer]
  rcases hroom with hin | hfree
  · rw [if_pos hin]; exact ⟨hp, hn⟩
  · split <;> omega

/-- An open pledge stands in the table under its requester and want number. -/
theorem State.openPledge_any {t : State} {x w p : Nat} {o : Offer} (h : t.openPledge x w p = some o) :
    t.share.pledges.any (·.isFor x w) = true := by
  obtain ⟨e, he, hm⟩ := List.exists_of_findSome?_eq_some h
  refine List.any_eq_true.mpr ⟨e, he, ?_⟩
  split at hm
  · split at hm
    · rename_i hc; exact (Bool.and_eq_true_iff.mp hc).1
    · cases hm
  · cases hm

theorem State.delayed_any {t : State} {x w : Nat} {e : PledgeEntry} (h : t.delayed x w = some e) :
    t.share.pledges.any (·.isFor x w) = true := by
  unfold State.delayed at h
  have hfor := List.find?_some h
  simp only [Bool.and_eq_true] at hfor
  exact List.any_eq_true.mpr ⟨e, List.mem_of_find?_eq_some h, hfor.1⟩

/-- Without the entry of a want the pledge table is shorter. -/
theorem length_dropPledge_lt {l : List PledgeEntry} {x w : Nat} (h : l.any (·.isFor x w) = true) :
    (l.filter fun e => !e.isFor x w).length < l.length := by
  obtain ⟨e, he, hf⟩ := List.any_eq_true.mp h
  exact List.length_filter_lt_length_iff_exists.mpr ⟨e, he, by simp [hf]⟩

section
variable {s t : State} (h : TablesKept s t)
include h

theorem TablesKept.dropPledge (x w : Nat) : TablesKept s (t.dropPledge x w) :=
  h.modShare_le _ le_rfl (List.length_filter_le _ _) (Nat.add_le_add_left (List.length_filter_le _ _) _)

/-- A pledge takes the place of its DELAYED entry, or one that is free (R149, R150, R158). -/
theorem TablesKept.makePledge {x w : Nat} (asked : Nat)
    (hroom : t.share.pledges.any (·.isFor x w) = true ∨
      (t.share.pledges.length < 4 ∧ t.share.outRecord.length + t.share.pledges.length < 8)) :
    TablesKept s (t.makePledge x w asked) := by
  unfold State.makePledge
  split
  · exact h.dropPledge x w
  · have hput : ∀ o no, TransferLimits (t.post (.pledge (t.pledgeAmount asked))) →
        TransferLimits ((t.post (.pledge (t.pledgeAmount asked))).modShare fun u =>
          { u with lastPledge := no, pledges := putOffer x w asked o u.pledges }) := by
      unfold TransferLimits
      simp only [State.modShare_share, State.post_frame]
      exact fun o _ ⟨hopen, hpledges, hout⟩ => ⟨hopen, putOffer_limits asked o hroom hpledges hout⟩
    exact (((h.post _).modShare _ (hput _ _)).handOver _).afterAvail

theorem TablesKept.wantHeard (x w a : Nat) : TablesKept s (t.wantHeard x w a) := by
  unfold State.wantHeard
  split
  · rename_i hc
    have hroom : t.share.pledges.length < 4 ∧
        t.share.outRecord.length + t.share.pledges.length < 8 := by
      have he := hc.2.2.2
      simp only [State.eligible, Bool.and_eq_true, decide_eq_true_iff] at he
      exact ⟨he.1.1.2, he.1.2⟩
    split
    · exact h.makePledge a (.inr hroom)
    · refine h.modShare _ fun ⟨hopen, _, _⟩ => ⟨hopen, ?_, ?_⟩ <;>
        simp only [State.modShare_share, List.length_append, List.length_singleton] <;> omega
  · exact h

theorem TablesKept.backupExpired (x w : Nat) : TablesKept s (t.backupExpired x w) := by
  unfold State.backupExpired
  split
  · exact h
  · rename_i hd
    split
    · exact h.makePledge _ (.inl (State.delayed_any hd))
    · exact h.dropPledge x w

theorem TablesKept.returnPledge (x w : Nat) (o : Offer) : TablesKept s (t.returnPledge x w o) :=
  ((h.post _).dropPledge x w).afterAvail

/-- A pledge concluded moves from the pledge table into the out record (R161). -/
theorem TablesKept.answerTake (x w p : Nat) : TablesKept s (t.answerTake x w p) := by
  unfold State.answerTake
  split
  · rename_i o ho
    have hlt := length_dropPledge_lt (State.openPledge_any ho)
    have hmove := (h.post (.pledgeConcluded o.amount)).modShare_le
      (fun u => { u with
        outRecord := u.outRecord ++ [⟨x, w, p, o.amount⟩]
        pledges := u.pledges.filter fun e => !e.isFor x w }) le_rfl
      (by simp only [State.post_frame]; omega)
      (by simp only [State.post_frame, List.length_append, List.length_singleton]; omega)
    exact (hmove.handOver _).raise _
  · split
    · exact h.handOver _
    · exact h.handOver _

theorem TablesKept.waived (x w p : Nat) : TablesKept s (t.waived x w p) := by
  unfold State.waived
  split
  · exact h.returnPledge x w _
  · exact h

theorem TablesKept.acknowledged (x w p : Nat) : TablesKept s (t.acknowledged x w p) :=
  h.modShare_le _ le_rfl le_rfl (Nat.add_le_add_right (List.length_filter_le _ _) _)

theorem TablesKept.takePledge (x w p a : Nat) : TablesKept s (t.takePledge x w p a) :=
  (((h.post _).modShare_le _ (by simp) le_rfl le_rfl).handOver _).evalWant

theorem TablesKept.pledgeForUs (x w p a : Nat) : TablesKept s (t.pledgeForUs x w p a) := by
  unfold State.pledgeForUs
  split
  · split
    · exact h.takePledge x w p a
    · exact ((h.handOver _).closeWant.raiseIf _ _).evalStanding
  · exact h.handOver _

theorem TablesKept.pledgeForOther (x w : Nat) : TablesKept s (t.pledgeForOther x w) :=
  h.modShare_le _ le_rfl (List.length_filter_le _ _) (Nat.add_le_add_left (List.length_filter_le _ _) _)

theorem TablesKept.dropUnresolved (x w p : Nat) : TablesKept s (t.dropUnresolved x w p) :=
  h.modShare_le _ (Nat.add_le_add_right List.length_eraseP_le _) le_rfl le_rfl

theorem TablesKept.settlementHeard (x w p : Nat) : TablesKept s (t.settlementHeard x w p) := by
  unfold State.settlementHeard
  split
  · exact (((h.post _).closeWant.handOver _).raise _).afterAvail
  · split
    · exact ((((h.post _).dropUnresolved x w p).handOver _).raise _).afterAvail
    · exact (h.handOver _).raise _

theorem TablesKept.voidHeard (x w p : Nat) : TablesKept s (t.voidHeard x w p) := by
  unfold State.voidHeard
  split
  · exact (((h.post _).closeWant.raiseIf _ _).evalStanding).evalWant
  · split
    · exact ((h.post _).dropUnresolved x w p).evalWant
    · exact h

/-- The open want moves into the unresolved list (R151, R164). -/
theorem TablesKept.wantToUnresolved {w : Want} (hw : t.share.want = some w) (k : Taken) :
    TablesKept s (t.wantToUnresolved w k) := by
  have hclosed : ∀ l : List Transfer, l.length = t.share.unresolved.length + 1 →
      l.length + (none : Option Want).isSome.toNat ≤
        t.share.unresolved.length + t.share.want.isSome.toNat := fun l hl => by simp [hl, hw]
  exact (h.modShare_le _ (hclosed _ (by simp)) le_rfl le_rfl).raise _

theorem TablesKept.settleExpired : TablesKept s t.settleExpired := by
  unfold State.settleExpired
  split
  · exact h.modShare_le _ le_rfl le_rfl le_rfl
  · rename_i hw
    split
    · exact h.modShare_le _ le_rfl le_rfl le_rfl
    · split
      · exact (h.modShare_le _ (by simp [hw]) le_rfl le_rfl).handOver _
      · exact ((h.wantToUnresolved hw _).modShare_le _ le_rfl le_rfl le_rfl).evalStanding

theorem TablesKept.askUnresolved (x : Nat) : TablesKept s (t.askUnresolved x) :=
  h.foldl (fun k a => by
    split
    · exact k.handOver _
    · exact k) _

theorem TablesKept.wantWindowExpiry : TablesKept s t.wantWindowExpiry := by
  unfold State.wantWindowExpiry
  split
  · split
    · exact h.modShare_le _ le_rfl le_rfl le_rfl
    · split
      · exact h.modShare_le _ le_rfl le_rfl le_rfl
      · exact (h.closeWant.raiseIf _ _).evalStanding
  · exact h

theorem TablesKept.pledgeExpiry (x w : Nat) : TablesKept s (t.pledgeExpiry x w) := by
  unfold State.pledgeExpiry
  split
  · exact h
  · exact h.returnPledge x w _

theorem TablesKept.retryExpiry : TablesKept s t.retryExpiry := by
  unfold State.retryExpiry
  split
  · exact (h.modShare_le _ le_rfl le_rfl le_rfl).evalWant
  · exact h

theorem TablesKept.discard (k : Transfer) : TablesKept s (t.discard k) :=
  ((h.post _).modShare_le _ le_rfl le_rfl le_rfl).dropUnresolved _ _ _

/-! ## Stamp stock -/

theorem TablesKept.tellEmpty (r : Reel) : TablesKept s (t.tellEmpty r) := (h.handOver _).raise _

theorem TablesKept.mount (f : Feeder) (id d c : Nat) : TablesKept s (t.mount f id d c).1 := by
  unfold State.mount
  split
  · exact ((((h.modStock _).modStock _).modStock _).raiseIf _ _).handOver _
  · split
    · exact (((h.modStock _).modStock _).raiseIf _ _).handOver _
    · exact (h.modStock _).handOver _

theorem TablesKept.conflict (r : Reel) : TablesKept s (t.conflict r) := by
  unfold State.conflict
  split
  · exact h.raise _
  · exact (h.modStock _).raise _

theorem TablesKept.askConflict (r : Reel) : TablesKept s (t.askConflict r) :=
  ((h.modStock _).handOver _).raise _

theorem TablesKept.adopt (r : Reel) (n d : Nat) : TablesKept s (t.adopt r n d) := by
  unfold State.adopt
  dsimp only
  split
  · exact ((h.modStock _).raiseIf _ _).tellEmpty _
  · exact ((h.modStock _).raiseIf _ _).handOver _

theorem TablesKept.claimHeard (id : Nat) : TablesKept s (t.claimHeard id) := by
  have hdrop : TablesKept s (t.dropNote id) := h.modStock _
  unfold State.claimHeard
  dsimp only
  split
  · exact hdrop
  · split
    · split
      · exact hdrop.askConflict _
      · exact hdrop.conflict _
    · exact hdrop.modStock _
    · exact hdrop

theorem TablesKept.releaseHeard (x id n d : Nat) : TablesKept s (t.releaseHeard x id n d) := by
  have hlisted : TablesKept s (if decide (n ≠ 0 ∧ d ≠ 0) = true then
      t.modStock fun u => { u with released := addNote u.released ⟨id, n, d, x⟩ } else t) := by
    split
    · exact h.modStock _
    · exact h
  unfold State.releaseHeard
  dsimp only
  split
  · exact hlisted
  · split
    · split
      · split
        · exact h.adopt _ _ _
        · exact h
      · split
        · exact h
        · exact h.conflict _
    · exact hlisted
    · exact hlisted

theorem TablesKept.answerFromList (id : Nat) : TablesKept s (t.answerFromList id) := by
  unfold State.answerFromList
  split
  · exact h
  · exact h.handOver _

theorem TablesKept.answerAsk (id : Nat) : TablesKept s (t.answerAsk id) := by
  unfold State.answerAsk
  split
  · exact h.answerFromList id
  · split
    · exact h.handOver _
    · exact h.handOver _
    · exact h.answerFromList id

theorem TablesKept.unmount (r : Reel) : TablesKept s (t.unmount r) := by
  unfold State.unmount
  split
  · exact h.modStock _
  · exact h.modStock _
  · split
    · exact h.modStock _
    · exact (h.modStock _).handOver _

theorem TablesKept.chargeStamp (f : Feeder) (d : Nat) : TablesKept s (t.chargeStamp f d) := by
  unfold State.chargeStamp
  split
  · exact (h.modSlot (.of_eq rfl rfl rfl rfl)).raiseIf _ _
  · exact h.modStock _

theorem TablesKept.countStamp (f : Feeder) (r : Reel) : TablesKept s (t.countStamp f r) := by
  unfold State.countStamp
  dsimp only
  split
  · exact (((h.chargeStamp f _).modStock _).modStock _).tellEmpty _
  · exact ((h.chargeStamp f _).modStock _).modStock _

theorem TablesKept.issue (f : Feeder) : TablesKept s (t.issue f) := by
  unfold State.issue
  split
  · split
    · exact (h.modStock _).raise _
    · exact h.countStamp f _
  · exact (h.modStock _).raise _

theorem TablesKept.askWindowExpiry (id : Nat) : TablesKept s (t.askWindowExpiry id) := by
  unfold State.askWindowExpiry
  split
  · exact h
  · split
    · exact (h.modStock _).handOver _
    · exact h

end

end Sys2Proof.Machine
end

section
/-! SUPPORT. The laws of the tables: the frames received, the restart and the time base. -/

namespace Sys2Proof.Machine

/-! ## Frames received -/

/-- The entries of an updated peer table: the station's own, and those that stood there. -/
theorem mem_updatePeer {x : Nat} {f : Peer → Peer} {l : List Peer} {p : Peer}
    (h : p ∈ updatePeer x f l) : (∃ q, q.station = x ∧ p = f q) ∨ p ∈ l := by
  induction l with
  | nil => exact .inl ⟨Peer.new x, rfl, List.mem_singleton.mp h⟩
  | cons d rest ih =>
    unfold updatePeer at h
    split at h
    · rename_i hx
      exact (List.mem_cons.mp h).imp (fun e => ⟨d, hx, e⟩) (.tail _)
    · split at h
      · exact (List.mem_cons.mp h).imp (fun e => ⟨Peer.new x, rfl, e⟩) id
      · rcases List.mem_cons.mp h with rfl | hp
        · exact .inr (.head _)
        · exact (ih hp).imp_right (.tail _)

/-- The peers stay ascending when a station's entry is changed or made (R124, R127). -/
theorem sorted_updatePeer (x : Nat) (f : Peer → Peer) (hf : ∀ p, (f p).station = p.station)
    {l : List Peer} (h : (l.map (·.station)).Pairwise (· < ·)) :
    ((updatePeer x f l).map (·.station)).Pairwise (· < ·) := by
  rw [List.pairwise_map] at h ⊢
  induction l with
  | nil => exact List.pairwise_singleton _ _
  | cons d rest ih =>
    obtain ⟨hd, hrest⟩ := List.pairwise_cons.mp h
    have hnew : (f (Peer.new x)).station = x := hf _
    unfold updatePeer
    split
    · exact List.pairwise_cons.mpr ⟨fun p hp => (hf d).symm ▸ hd p hp, hrest⟩
    · split
      · rename_i hlt
        refine List.pairwise_cons.mpr ⟨fun p hp => hnew.symm ▸ ?_, h⟩
        rcases List.mem_cons.mp hp with rfl | hp
        · exact hlt
        · exact hlt.trans (hd p hp)
      · refine List.pairwise_cons.mpr ⟨fun p hp => ?_, ih hrest⟩
        rcases mem_updatePeer hp with ⟨q, hq, rfl⟩ | hp
        · rw [hf]; omega
        · exact hd p hp

section
variable {s t : State} (h : TablesKept s t)
include h

theorem TablesKept.hearPeer (x : Nat) : TablesKept s (t.hearPeer x) :=
  h.modPeers _ (sorted_updatePeer x _ (by intro p; rfl))

theorem TablesKept.notePeer (x a d : Nat) (f : StandingFlags) : TablesKept s (t.notePeer x a d f) :=
  h.modPeers _ (sorted_updatePeer x _ (by intro p; rfl))

/-- The peers changed one by one, each staying under its number. -/
theorem TablesKept.mapPeers {f : Peer → Peer} (hf : ∀ p, (f p).station = p.station) :
    TablesKept s (t.modBus fun b => { b with peers := b.peers.map f }) :=
  h.modPeers (List.map f) fun hp => by
    rwa [List.map_map, List.map_congr_left (g := (·.station)) fun p _ => by exact hf p]

theorem TablesKept.peerAgeing (x : Nat) : TablesKept s (t.peerAgeing x) :=
  h.mapPeers fun p => by split <;> rfl

theorem TablesKept.ignoreFrame : TablesKept s t.ignoreFrame := h.modBusRest _ rfl rfl rfl

theorem TablesKept.duplicateFrame : TablesKept s t.duplicateFrame := by
  unfold State.duplicateFrame
  split
  · exact (h.modBus _ rfl fun _ => .empty rfl).raise _
  · exact h.raise _

theorem TablesKept.standingHeard (x a d : Nat) (f : StandingFlags) :
    TablesKept s (t.standingHeard x a d f) :=
  ((h.notePeer x a d f).raiseIf _ _).askUnresolved x

theorem TablesKept.noteHeard (x : Nat) (k : NoteKind) (id n d : Nat) :
    TablesKept s (t.noteHeard x k id n d) := by
  cases k with
  | mounted => exact h.claimHeard id
  | empty => exact h.claimHeard id
  | released => exact h.releaseHeard x id n d

theorem TablesKept.frameHeard (x : Nat) (f : BusFrame) : TablesKept s (t.frameHeard x f) := by
  unfold State.frameHeard
  split
  · cases f with
    | want w a => exact h.wantHeard _ _ _
    | pledge d w p a => exact h.pledgeForUs _ _ _ _
    | take d w p a => exact h.answerTake _ _ _
    | ask d w p => exact h.answerTake _ _ _
    | waive d w p => exact h.waived _ _ _
    | settled d w p a => exact h.settlementHeard _ _ _
    | received d w p => exact h.acknowledged _ _ _
    | void d w p => exact h.voidHeard _ _ _
    | reelAsk id => exact h.answerAsk _
    | reelNote k id r d => exact h
    | standing a d f => exact h
  · split
    · exact h.pledgeForOther _ _
    · exact h

theorem TablesKept.acceptFrame (x : Nat) (f : BusFrame) : TablesKept s (t.acceptFrame x f) := by
  unfold State.acceptFrame
  dsimp only
  split
  · exact (h.hearPeer x).standingHeard _ _ _ _
  · exact (h.hearPeer x).noteHeard _ _ _ _ _
  · split
    · exact h.hearPeer x
    · exact (h.hearPeer x).frameHeard x _

theorem TablesKept.receiveFrom (x : Nat) (f : Option BusFrame) : TablesKept s (t.receiveFrom x f) := by
  unfold State.receiveFrom
  split
  · exact h.ignoreFrame
  · split
    · exact h.duplicateFrame
    · split
      · exact h.ignoreFrame
      · split
        · exact h.acceptFrame x _
        · exact h.ignoreFrame

theorem TablesKept.receive (x : BitVec 5) (f : BusFrame) : TablesKept s (t.receive x f) := by
  unfold State.receive
  split
  · exact h.receiveFrom _ _
  · exact h

theorem TablesKept.receiveRaw (f : RxFrame) : TablesKept s (t.receiveRaw f) := by
  unfold State.receiveRaw
  split
  · split
    · exact h.ignoreFrame
    · exact h.receiveFrom _ _
  · exact h

/-- The loaded frame sent, and with it JOINING left for ACTIVE (R116, R120). -/
theorem TablesKept.frameSent : TablesKept s t.frameSent := by
  unfold State.frameSent
  split
  · have hnext := (h.modBus (fun b => { b with tx := b.tx.filter fun e => !e.loaded }) rfl
      fun q => q.filter rfl rfl).loadFront
    dsimp only
    split
    · exact (hnext.modBus _ rfl fun q => q.sends rfl rfl).evalWant
    · exact hnext
  · exact h

/-! ## Restart and the time base -/

theorem TablesKept.restartSlot (i : Nat) : TablesKept s (t.restartSlot i) := by
  unfold State.restartSlot
  split
  · exact h
  · split
    · exact h.closeSlot _ _
    · exact (h.modRuns _).closeSlot _ _

theorem TablesKept.restartSharing : TablesKept s t.restartSharing := by
  have hcleared : ∀ {u : State}, TablesKept s u → TablesKept s (u.modShare fun v =>
      { v with
        want := none, wantWindow := none, settleTimer := none, retry := none, request := none
        pledges := [] }) := fun k =>
    k.modShare_le _ (Nat.add_le_add_left (Nat.zero_le _) _) (Nat.zero_le _)
      (Nat.add_le_add_left (Nat.zero_le _) _)
  unfold State.restartSharing
  dsimp only
  split
  · exact hcleared h
  · rename_i hw
    split
    · exact hcleared h
    · exact hcleared (h.wantToUnresolved hw _)

theorem TablesKept.restartPort : TablesKept s t.restartPort :=
  h.trans ⟨id, id, id, id, id, id, fun _ => ⟨Alarm.word_defined .started, BitVec.zero_and⟩⟩

/-- Job memory and the Bus Interface cleared. -/
theorem TablesKept.cleared (w : Walker) (l : LineBank) :
    TablesKept s { t with job := ⟨[], w⟩, bus := .restarted, lines := l } :=
  h.trans ⟨id, id, id, fun _ => .nil, fun _ => ⟨by simp [BusUnit.restarted],
    by simp [BusUnit.restarted], .nil, fun _ => rfl⟩, fun _ => Memory.wf_nil, id⟩

theorem TablesKept.restart : TablesKept s t.restart := by
  have hposted : TablesKept s t.restartPostings := h.acct _
  have hslots := (((((hposted.restartPort).modRuns
    (fun u => ⟨[], u.nextId, none, [], none, none, [], 0⟩)).restartSlot 0).restartSlot 1).restartSlot
    2).restartSlot 3
  exact ((hslots.modStock StockUnit.restart).restartSharing).cleared Walker.blank _

/-- 1 ms moves timers and ages only. -/
theorem TablesKept.tick : TablesKept s t.tick :=
  (((h.mapPeers (f := fun p => { p with age := satAdd p.age 1 }) fun _ => rfl).modBusRest
    (fun b => { b with standingTimer := ticked b.standingTimer }) rfl rfl rfl).modShare_le
    SharingUnit.tick le_rfl (by simp [SharingUnit.tick]) (by simp [SharingUnit.tick])).trans
    ⟨id, id, id, id, id, id, id⟩

end

end Sys2Proof.Machine
end

section
/-! SUPPORT. The laws of the tables: what the commands' bodies do. -/

namespace Sys2Proof.Machine

/-! ## Commands -/

/-- Every state that an outcome answers keeps the laws of the tables. -/
structure KeepsTables (s : State) (o : Host.Outcome State Fault Refusal) : Prop where
  next : ∀ t, o = .next t → TablesKept s t

theorem TablesKept.done {s t : State} (h : TablesKept s t) : KeepsTables s (done t) :=
  ⟨fun _ hu => done_next.mp hu ▸ h.driveOutputs⟩

theorem TablesKept.shiftOut (s : State) : TablesKept s s.shiftOut := (TablesKept.refl s).modPort _ id id

theorem TablesKept.setProtection {s t : State} (h : TablesKept s t) (on : Bool) :
    TablesKept s (t.setProtection on) := h.modPort _ id id

theorem TablesKept.answer {s t : State} (h : TablesKept s t) (r : Response) :
    TablesKept s (t.answer r) := h.modPort _ id id

theorem TablesKept.endSnapshot {s t : State} (h : TablesKept s t) (r : Response) :
    TablesKept s (t.endSnapshot r) := by
  unfold State.endSnapshot
  split
  · exact h.modPort _ id id
  · exact h

/-- A command whose body keeps the laws. -/
theorem KeepsTables.of_command {s : State} {o : Host.Outcome State Fault Refusal} {row : CommandRow}
    {p : List Byte} {body : State → State × Response} (ho : o = s.runCommand row p body)
    (hb : ∀ u, TablesKept u (body u).1) : KeepsTables s o := by
  rw [ho]
  unfold State.runCommand
  split
  · exact ((TablesKept.shiftOut s).answer _).done
  · exact ((((TablesKept.shiftOut s).trans (hb _)).endSnapshot _).answer _).done

/-- A command whose body only reads. -/
theorem KeepsTables.of_reading {s : State} {o : Host.Outcome State Fault Refusal} {row : CommandRow}
    {p : List Byte} {body : State → State × Response} (ho : o = s.runCommand row p body)
    (hb : ∀ u, (body u).1 = u) : KeepsTables s o :=
  .of_command ho fun u => (hb u).symm ▸ .refl u

theorem TablesKept.readParts {s t : State} (h : TablesKept s t) (read : PartsOf) (k : Nat)
    (a : List Byte) : TablesKept s (t.readParts read k a) := by
  unfold State.readParts
  split
  · exact (h.modPort _ id id).answer _
  · split
    · exact h.answer _
    · split
      · split
        · exact h.answer _
        · exact h.answer _
      · exact h.answer _

theorem runRead_keepsTables (s : State) (row : CommandRow) (p : List Byte) (read : PartsOf)
    (a : List Byte) : KeepsTables s (s.runRead row p read a) := by
  unfold State.runRead
  split
  · exact ((TablesKept.shiftOut s).answer _).done
  · exact ((TablesKept.shiftOut s).readParts _ _ _).done

/-! ### Bodies -/

theorem TablesKept.takeSettings (s : State) (c : Settings) : TablesKept s (s.takeSettings c) := by
  have hset : TablesKept s (s.modPort fun p => { p with settings := some c }) :=
    (TablesKept.refl s).modPort _ id id
  unfold State.takeSettings
  dsimp only
  split
  · exact ((((hset.acct _).raise _).raiseIf _ _).enterJoining true).evalWant
  · exact ((hset.evalContact.raiseIf _ _).enterJoining true).evalWant

theorem configureBody_kept (p : List Byte) (s : State) : TablesKept s (configureBody p s).1 := by
  unfold configureBody
  dsimp only
  split
  · exact .refl s
  · split
    · exact .refl s
    · exact .takeSettings s _

/-- Clearing bits brings none of bits 29 to 31 up. -/
theorem and_defined {x : BitVec 32} (y : BitVec 32) (h : x &&& ~~~alarmBits = 0) :
    x &&& y &&& ~~~alarmBits = 0 := by
  rw [BitVec.and_assoc, BitVec.and_comm y, ← BitVec.and_assoc, h]
  exact BitVec.zero_and

theorem clearAlarms_kept (s : State) (w : BitVec 32) :
    TablesKept s (s.modPort fun u => { u with alarms := u.alarms &&& ~~~(w &&& alarmBits) }) :=
  (TablesKept.refl s).modPort _ (and_defined _) id

theorem setAlarmMask_kept (s : State) (w : BitVec 32) :
    TablesKept s (s.modPort fun u => { u with mask := u.mask ||| (w &&& alarmBits) }) :=
  (TablesKept.refl s).modPort _ id fun h => by
    rw [BitVec.and_or_distrib_right, h, BitVec.and_assoc, BitVec.and_not_self]; simp

theorem clearAlarmMask_kept (s : State) (w : BitVec 32) :
    TablesKept s (s.modPort fun u => { u with mask := u.mask &&& ~~~(w &&& alarmBits) }) :=
  (TablesKept.refl s).modPort _ id (and_defined _)

theorem setDayBody_kept (p : List Byte) (s : State) : TablesKept s (setDayBody p s).1 := by
  unfold setDayBody
  dsimp only
  split
  · exact .refl s
  · split
    · exact .refl s
    · exact ((((TablesKept.refl s).dayAdvance _).evalContact).raiseIf _ _).afterMode _

theorem writePendingRateBody_kept (p : List Byte) (s : State) :
    TablesKept s (writePendingRateBody p s).1 := by
  unfold writePendingRateBody
  dsimp only
  split
  · exact .refl s
  · split
    · exact (TablesKept.refl s).rates _
    · split
      · exact (TablesKept.refl s).rates _
      · exact .refl s

theorem setEffectiveDayBody_kept (p : List Byte) (s : State) :
    TablesKept s (setEffectiveDayBody p s).1 := by
  unfold setEffectiveDayBody
  split
  · exact .refl s
  · exact (TablesKept.refl s).rates _

theorem writeGrantBody_kept (p : List Byte) (s : State) : TablesKept s (writeGrantBody p s).1 := by
  unfold writeGrantBody
  dsimp only
  split
  · exact .refl s
  · split
    · exact .refl s
    · exact (TablesKept.refl s).setGrant _ _

theorem closePeriodBody_kept (s : State) : TablesKept s (closePeriodBody s).1 := by
  unfold closePeriodBody
  split
  · exact (TablesKept.refl s).grantTable _
  · exact .refl s

theorem startRunBody_kept (p : List Byte) (s : State) : TablesKept s (startRunBody p s).1 := by
  unfold startRunBody
  split
  · exact .refl s
  · exact ((TablesKept.refl s).appendRun _).considerStart

theorem stopRunBody_kept (p : List Byte) (s : State) : TablesKept s (stopRunBody p s).1 := by
  unfold stopRunBody
  split
  · exact .refl s
  · exact ((TablesKept.refl s).endRequest _ _).considerStart

theorem resumeRunBody_kept (p : List Byte) (s : State) : TablesKept s (resumeRunBody p s).1 := by
  unfold resumeRunBody
  split
  · exact .refl s
  · split
    · exact (((TablesKept.refl s).modRun _ _).authorise _).considerStart
    · exact .refl s

/-- WRITE JOB keeps job memory in canonical form (R99). -/
theorem writeJobBody_kept (p : List Byte) (s : State) : TablesKept s (writeJobBody p s).1 := by
  unfold writeJobBody
  dsimp only
  split
  · exact .refl s
  · exact ⟨id, id, id, id, id, fun hm => Memory.wf_jobWrite hm _ _, id⟩

theorem startJobBody_kept (p : List Byte) (s : State) : TablesKept s (startJobBody p s).1 := by
  unfold startJobBody
  dsimp only
  split
  · exact .refl s
  · have hstarted := (((TablesKept.refl s).modWalker Walker.fresh).walkerFetch (field p 0 2)
      ((flagsByte p 2).getLsbD 6) ((flagsByte p 2).getLsbD 7)).considerStart
    split
    · exact .refl s
    · exact .refl s
    · exact .refl s
    · exact hstarted
    · exact hstarted
    · exact hstarted

theorem TablesKept.resumeJob {s t : State} (h : TablesKept s t) : TablesKept s t.resumeJob := by
  unfold State.resumeJob
  dsimp only
  split
  · exact (h.modWalker _).walkerAppend
  · exact (h.modWalker _).walkerNext
  · exact (h.modWalker _).walkerNext

theorem resumeJobBody_kept (s : State) : TablesKept s (resumeJobBody s).1 := by
  unfold resumeJobBody
  split
  · exact (TablesKept.refl s).resumeJob.considerStart
  · exact .refl s

theorem haltJobBody_kept (s : State) : TablesKept s (haltJobBody s).1 := by
  have hidle : TablesKept s s.walkerIdle := (TablesKept.refl s).modWalker _
  show TablesKept s s.haltJob
  unfold State.haltJob
  split
  · exact .refl s
  · exact hidle
  · exact hidle
  · exact hidle
  · exact hidle
  · split
    · exact .refl s
    · split
      · exact hidle
      · exact (((TablesKept.refl s).modWalker _).endRequest _ _).considerStart

theorem mountReelBody_kept (p : List Byte) (s : State) : TablesKept s (mountReelBody p s).1 := by
  unfold mountReelBody
  dsimp only
  split
  · exact .refl s
  · split
    · exact .refl s
    · exact (TablesKept.refl s).mount _ _ _ _

theorem unmountReelBody_kept (p : List Byte) (s : State) : TablesKept s (unmountReelBody p s).1 := by
  unfold unmountReelBody
  split
  · exact .refl s
  · split
    · exact .refl s
    · exact (TablesKept.refl s).unmount _

theorem busRestartBody_kept (s : State) : TablesKept s (busRestartBody s).1 := by
  unfold busRestartBody
  split
  · exact (TablesKept.refl s).enterJoining _
  · exact .refl s

theorem requestCreditBody_kept (p : List Byte) (s : State) :
    TablesKept s (requestCreditBody p s).1 := by
  unfold requestCreditBody
  dsimp only
  split
  · exact .refl s
  · split
    · exact .refl s
    · split
      · exact (TablesKept.refl s).raise _
      · exact ((TablesKept.refl s).modShare_le _ le_rfl le_rfl le_rfl).evalWant

theorem discardUnresolvedBody_kept (p : List Byte) (s : State) :
    TablesKept s (discardUnresolvedBody p s).1 := by
  unfold discardUnresolvedBody
  dsimp only
  split
  · exact .refl s
  · split
    · exact .refl s
    · exact ((TablesKept.refl s).discard _).evalWant

theorem TablesKept.refillUpdate {s t : State} (h : TablesKept s t) (r : RefillRecord) :
    TablesKept s (t.refillUpdate r) := by
  unfold State.refillUpdate
  dsimp only
  split
  · exact (((h.post _).refill _).dayAdvance _).refill _
  · exact ((h.post _).refill _).refill _

theorem applyRefillBody_kept (p : List Byte) (s : State) : TablesKept s (applyRefillBody p s).1 := by
  have happlied := ((((TablesKept.refl s).refillUpdate (refillOfPayload p)).evalContact).raiseIf
    (s.refillSwaps (refillOfPayload p)) .ratesSwapped).raise .refillDone
  unfold applyRefillBody
  dsimp only
  split
  · show TablesKept s (State.refillNeighbours _ _ _)
    unfold State.refillNeighbours
    split
    · exact happlied.afterAvail
    · exact happlied.afterMode _
  · exact .refl s

/-! ### Slots -/

/-- What the checks of R41 have found of an open that they let pass. -/
theorem State.openSlotCheck_none {s : State} {i g l : Nat} (h : s.openSlotCheck i g l = none) :
    (s.slot i).state = .idle ∧
      (g ≠ 0 → ¬ ∃ j < 4, (s.slot j).state ≠ .idle ∧ (s.slot j).grant = g) := by
  by_cases hr : 3 < i ∨ 63 < g ∨ 3 < l
  · rw [State.openSlotCheck_range hr] at h; cases h
  · rw [s.openSlotCheck_inRange (by omega) (by omega) (by omega)] at h
    split at h
    · cases h
    · rename_i hs
      refine ⟨not_not.mp hs, fun hg => (State.slotHolding_eq_none hg).mp ?_⟩
      rw [if_neg hg] at h
      split at h
      · cases h
      · split at h
        · cases h
        · split at h
          · cases h
          · rename_i hn
            simpa using hn

/-- A slot opened on a grant that no other holds (R43). -/
theorem GrantsHeldOnce.openSlot {s : State} (h : GrantsHeldOnce s) {i g : Nat} (l : Nat)
    (hfree : g ≠ 0 → ¬ ∃ j < 4, (s.slot j).state ≠ .idle ∧ (s.slot j).grant = g) :
    GrantsHeldOnce (s.openSlot i g l) := by
  intro a ha b hb hsa hsb hg h0
  rw [State.slot_openSlot] at hsa hg h0
  rw [State.slot_openSlot] at hsb hg
  by_cases hai : a = i ∧ i < 4 <;> by_cases hbi : b = i ∧ i < 4
  · exact hai.1.trans hbi.1.symm
  · rw [if_pos hai] at hg h0
    rw [if_neg hbi] at hg hsb
    exact absurd ⟨b, hb, hsb, hg.symm⟩ (hfree h0)
  · rw [if_neg hai] at hg hsa h0
    rw [if_pos hbi] at hg
    exact absurd ⟨a, ha, hsa, hg⟩ (hfree fun e => h0 (hg.trans e))
  · rw [if_neg hai] at hg hsa h0
    rw [if_neg hbi] at hg hsb
    exact h a ha b hb hsa hsb hg h0

/-- An open leaves the feeders as they are. -/
theorem FeedersBoundOnce.openSlot {s : State} (h : FeedersBoundOnce s) (i g l : Nat) :
    FeedersBoundOnce (s.openSlot i g l) := by
  have hopen : FeedersBoundOnce (s.setSlot i ((s.slot i).openOn g l (s.grant g))) :=
    h.setSlotBound (fun f => by cases f <;> exact id) nofun
  have hslot : ∀ j, (s.openSlot i g l).slot j =
      (s.setSlot i ((s.slot i).openOn g l (s.grant g))).slot j :=
    State.slot_eq (by simp [State.openSlot])
  unfold FeedersBoundOnce
  simp only [hslot]
  exact hopen

theorem openSlotBody_kept (p : List Byte) (s : State) : TablesKept s (openSlotBody p s).1 := by
  unfold openSlotBody
  dsimp only
  split
  · exact .refl s
  · rename_i hcheck
    obtain ⟨-, hfree⟩ := State.openSlotCheck_none hcheck
    have hrest : TablesKept s (s.openSlot (field p 0 1) (field p 1 1) (field p 2 1)) := by
      rw [State.openSlot_eq]
      exact ⟨fun h => h.openSlot _ hfree, fun h => h.openSlot _ _ _, id, id, id, id, id⟩
    exact hrest

theorem closeSlotBody_kept (p : List Byte) (s : State) : TablesKept s (closeSlotBody p s).1 := by
  unfold closeSlotBody
  dsimp only
  split
  · exact .refl s
  · split
    · exact .refl s
    · rename_i hi
      split
      · exact .refl s
      · split
        · exact .refl s
        · show TablesKept s (if _ then _ else _)
          split
          · exact (TablesKept.refl s).closeSlot _ _
          · exact (TablesKept.refl s).abandonSlot hi

/-- A bind to a slot that is not IDLE (R54). -/
theorem FeedersBoundOnce.bind {s : State} (h : FeedersBoundOnce s) (f : Feeder) {i : Nat}
    (hi : i < 4) (hs : (s.slot i).state ≠ .idle) : FeedersBoundOnce (s.bind f i) := by
  have hbound : ∀ j g, ((s.bind f i).slot j).bound g =
      if f = g then decide (j = i) else (s.slot j).bound g := fun j g => by
    rw [State.slot_bind s f hi, Slot.bound_setBound]
  have hstate : ∀ j, ((s.bind f i).slot j).state = (s.slot j).state := fun j => by
    rw [State.slot_bind s f hi]; exact (Slot.setBound_frame _ _ _).1
  obtain ⟨once, idle⟩ := h
  refine ⟨fun g hg a ha b hb hba hbb => ?_, fun j hj hidle => ?_⟩
  · rw [hbound] at hba hbb
    split at hba
    · rename_i he
      rw [if_pos he] at hbb
      exact (decide_eq_true_iff.mp hba).trans (decide_eq_true_iff.mp hbb).symm
    · rename_i he
      rw [if_neg he] at hbb
      exact once g hg a ha b hb hba hbb
  · rw [hstate] at hidle
    have hji : j ≠ i := fun e => hs (e ▸ hidle)
    obtain ⟨hA, hB⟩ := idle j hj hidle
    have hA' := hbound j .a
    have hB' := hbound j .b
    simp only [Slot.bound, hA, hB, hji, decide_false, ite_self] at hA' hB'
    exact ⟨hA', hB'⟩

theorem FeedersBoundOnce.unbind {s : State} (h : FeedersBoundOnce s) (f : Feeder) :
    FeedersBoundOnce (s.unbind f) := by
  have hbound : ∀ j g, ((s.unbind f).slot j).bound g = true → (s.slot j).bound g = true :=
    fun j g => by rw [State.slot_unbind, Slot.bound_setBound]; split <;> simp
  obtain ⟨once, idle⟩ := h
  refine ⟨fun g hg a ha b hb hba hbb => once g hg a ha b hb (hbound a g hba) (hbound b g hbb),
    fun j hj hidle => ?_⟩
  rw [State.slot_unbind, (Slot.setBound_frame _ _ _).1] at hidle
  obtain ⟨hA, hB⟩ := idle j hj hidle
  exact ⟨Bool.eq_false_iff.mpr fun hb => Bool.eq_false_iff.mp hA (hbound j .a hb),
    Bool.eq_false_iff.mpr fun hb => Bool.eq_false_iff.mp hB (hbound j .b hb)⟩

/-- Feeders bound or not touch no slot's state or grant. -/
theorem GrantsHeldOnce.setBound {s t : State} (h : GrantsHeldOnce s) {f : Feeder} {on : Nat → Bool}
    (ht : ∀ j, t.slot j = (s.slot j).setBound f (on j)) : GrantsHeldOnce t := by
  unfold GrantsHeldOnce
  simp only [ht, Slot.setBound_frame]
  exact h

theorem bindFeederBody_kept (p : List Byte) (s : State) : TablesKept s (bindFeederBody p s).1 := by
  unfold bindFeederBody
  dsimp only
  split
  · exact .refl s
  · split
    · exact ⟨fun h => h.setBound (s.slot_unbind _), fun h => h.unbind _, id, id, id, id, id⟩
    · split
      · exact .refl s
      · rename_i hi
        have hi4 : field p 1 1 < 4 := by omega
        split
        · exact .refl s
        · exact .refl s
        · rename_i hs
          exact ⟨fun h => h.setBound (s.slot_bind _ hi4), fun h => h.bind _ hi4 (by simp [hs]), id, id,
            id, id, id⟩

end Sys2Proof.Machine
end

section
/-! SUPPORT. The laws of the tables: every step. -/

namespace Sys2Proof.Machine

/-! ## Every step -/

/-- APPLY REFILL before configuration answers a receipt alone (R181). -/
theorem execApplyRefill_keepsTables (p : List Byte) (s : State) :
    KeepsTables s (execApplyRefill p s) := by
  unfold execApplyRefill
  split
  · exact ((TablesKept.shiftOut s).answer _).done
  · exact .of_command rfl (applyRefillBody_kept p)

theorem execNop_keepsTables (p : List Byte) (s : State) : KeepsTables s (execNop p s) := by
  unfold execNop
  split
  · exact ((TablesKept.shiftOut s).answer _).done
  · exact (TablesKept.shiftOut s).done

theorem execReset_keepsTables (p : List Byte) (s : State) : KeepsTables s (execReset p s) := by
  unfold execReset
  split
  · exact ((TablesKept.shiftOut s).answer _).done
  · exact (TablesKept.shiftOut s).restart.done

theorem execProtectOff_keepsTables (p : List Byte) (s : State) :
    KeepsTables s (execProtectOff p s) := by
  refine .of_command rfl fun u => ?_
  split
  · exact (TablesKept.refl u).setProtection false
  · exact .refl u

theorem execSettleTimerExpiry_keepsTables (s : State) : KeepsTables s (execSettleTimerExpiry s) := by
  unfold execSettleTimerExpiry
  split
  · exact (TablesKept.refl s).settleExpired.done
  · exact (TablesKept.refl s).done

theorem TablesKept.sendingEnd (s : State) : TablesKept s s.sendingEnd := (TablesKept.refl s).modRuns _

/-- A level change reaches the owner of its edge, or the qualifier alone (R186). -/
theorem TablesKept.levelChange (s : State) (l : Line) (b : Bool) :
    TablesKept s (s.levelChange l b) := by
  have h := TablesKept.refl s
  unfold State.levelChange
  split
  · exact (h.takeLevel _ _).issue _
  · exact (h.takeLevel _ _).issue _
  · exact (h.takeLevel _ _).raise _
  · exact (h.takeLevel _ _).raise _
  · exact h.doneRise
  · exact h.faultRise
  · exact h.serviceFall
  · exact h.takeLevel _ _

theorem readRatesBody_reads (p : List Byte) (s : State) : (readRatesBody p s).1 = s := by
  unfold readRatesBody; split <;> rfl

theorem readGrantBody_reads (p : List Byte) (s : State) : (readGrantBody p s).1 = s := by
  unfold readGrantBody; split <;> rfl

theorem readSlotBody_reads (p : List Byte) (s : State) : (readSlotBody p s).1 = s := by
  unfold readSlotBody; split <;> rfl

theorem readJobBody_reads (p : List Byte) (s : State) : (readJobBody p s).1 = s := by
  unfold readJobBody; dsimp only; split <;> rfl

/-- Every command and event keeps the laws of the tables. -/
theorem exec_keepsTables (c : Instr) (s : State) : KeepsTables s (exec c s) :=
  have h := TablesKept.refl s
  match c with
  | .nop p => execNop_keepsTables p s
  | .status p => (.of_reading rfl fun _ => rfl : KeepsTables s (execStatus p s))
  | .reset p => execReset_keepsTables p s
  | .configure p => (.of_command rfl (configureBody_kept p) : KeepsTables s (execConfigure p s))
  | .readLines p => (.of_reading rfl fun _ => rfl : KeepsTables s (execReadLines p s))
  | .readRegisters p => (.of_reading rfl fun _ => rfl : KeepsTables s (execReadRegisters p s))
  | .protectOff p => execProtectOff_keepsTables p s
  | .protectOn p =>
    (.of_command rfl fun u => (TablesKept.refl u).setProtection true :
      KeepsTables s (execProtectOn p s))
  | .readAlarms p => (.of_reading rfl fun _ => rfl : KeepsTables s (execReadAlarms p s))
  | .clearAlarms p =>
    (.of_command rfl fun u => clearAlarms_kept u _ : KeepsTables s (execClearAlarms p s))
  | .setAlarmMask p =>
    (.of_command rfl fun u => setAlarmMask_kept u _ : KeepsTables s (execSetAlarmMask p s))
  | .clearAlarmMask p =>
    (.of_command rfl fun u => clearAlarmMask_kept u _ : KeepsTables s (execClearAlarmMask p s))
  | .setDay p => (.of_command rfl (setDayBody_kept p) : KeepsTables s (execSetDay p s))
  | .writePendingRate p =>
    (.of_command rfl (writePendingRateBody_kept p) : KeepsTables s (execWritePendingRate p s))
  | .setEffectiveDay p =>
    (.of_command rfl (setEffectiveDayBody_kept p) : KeepsTables s (execSetEffectiveDay p s))
  | .cancelPending p =>
    (.of_command rfl fun u => (TablesKept.refl u).rates _ : KeepsTables s (execCancelPending p s))
  | .readRates p => (.of_reading rfl (readRatesBody_reads p) : KeepsTables s (execReadRates p s))
  | .writeGrant p => (.of_command rfl (writeGrantBody_kept p) : KeepsTables s (execWriteGrant p s))
  | .readGrant p => (.of_reading rfl (readGrantBody_reads p) : KeepsTables s (execReadGrant p s))
  | .closePeriod p => (.of_command rfl closePeriodBody_kept : KeepsTables s (execClosePeriod p s))
  | .openSlot p => (.of_command rfl (openSlotBody_kept p) : KeepsTables s (execOpenSlot p s))
  | .closeSlot p => (.of_command rfl (closeSlotBody_kept p) : KeepsTables s (execCloseSlot p s))
  | .readSlot p => (.of_reading rfl (readSlotBody_reads p) : KeepsTables s (execReadSlot p s))
  | .bindFeeder p => (.of_command rfl (bindFeederBody_kept p) : KeepsTables s (execBindFeeder p s))
  | .startRun p => (.of_command rfl (startRunBody_kept p) : KeepsTables s (execStartRun p s))
  | .stopRun p => (.of_command rfl (stopRunBody_kept p) : KeepsTables s (execStopRun p s))
  | .resumeRun p => (.of_command rfl (resumeRunBody_kept p) : KeepsTables s (execResumeRun p s))
  | .readQueue p => (runRead_keepsTables s _ p _ _ : KeepsTables s (execReadQueue p s))
  | .readFinished p => (.of_reading rfl fun _ => rfl : KeepsTables s (execReadFinished p s))
  | .writeJob p => (.of_command rfl (writeJobBody_kept p) : KeepsTables s (execWriteJob p s))
  | .readJob p => (.of_reading rfl (readJobBody_reads p) : KeepsTables s (execReadJob p s))
  | .startJob p => (.of_command rfl (startJobBody_kept p) : KeepsTables s (execStartJob p s))
  | .resumeJob p => (.of_command rfl resumeJobBody_kept : KeepsTables s (execResumeJob p s))
  | .haltJob p => (.of_command rfl haltJobBody_kept : KeepsTables s (execHaltJob p s))
  | .readWalker p => (.of_reading rfl fun _ => rfl : KeepsTables s (execReadWalker p s))
  | .mountReel p => (.of_command rfl (mountReelBody_kept p) : KeepsTables s (execMountReel p s))
  | .unmountReel p =>
    (.of_command rfl (unmountReelBody_kept p) : KeepsTables s (execUnmountReel p s))
  | .readStock p => (runRead_keepsTables s _ p _ _ : KeepsTables s (execReadStock p s))
  | .readBus p => (.of_reading rfl fun _ => rfl : KeepsTables s (execReadBus p s))
  | .readPeers p => (runRead_keepsTables s _ p _ _ : KeepsTables s (execReadPeers p s))
  | .busRestart p => (.of_command rfl busRestartBody_kept : KeepsTables s (execBusRestart p s))
  | .requestCredit p =>
    (.of_command rfl (requestCreditBody_kept p) : KeepsTables s (execRequestCredit p s))
  | .readTransfers p => (.of_reading rfl fun _ => rfl : KeepsTables s (execReadTransfers p s))
  | .discardUnresolved p =>
    (.of_command rfl (discardUnresolvedBody_kept p) : KeepsTables s (execDiscardUnresolved p s))
  | .applyRefill p => execApplyRefill_keepsTables p s
  | .badCommand _ _ => ((TablesKept.shiftOut s).answer _).done
  | .shortFrame _ => ((TablesKept.shiftOut s).answer _).done
  | .transactionWhileBusy _ => (h.modPort _ id id).done
  | .restart => h.restart.done
  | .doneRise => h.doneRise.done
  | .faultRise => h.faultRise.done
  | .mechanismTimerExpiry => h.mechExpiry.done
  | .imprintSendingEnd => (TablesKept.sendingEnd s).done
  | .issueRise f => ((h.takeLevel _ _).issue f).done
  | .reelLowRise _ => ((h.takeLevel _ _).raise _).done
  | .serviceFall => h.serviceFall.done
  | .frameIgnored f => (h.receiveRaw f).done
  | .duplicateStation f => (h.receiveRaw f).done
  | .standing x _ _ _ => (h.receive x _).done
  | .want x _ _ => (h.receive x _).done
  | .pledge x _ _ _ _ => (h.receive x _).done
  | .take x _ _ _ _ => (h.receive x _).done
  | .ask x _ _ _ => (h.receive x _).done
  | .waive x _ _ _ => (h.receive x _).done
  | .settled x _ _ _ _ => (h.receive x _).done
  | .received x _ _ _ => (h.receive x _).done
  | .void x _ _ _ => (h.receive x _).done
  | .reelNoteMounted x _ _ _ => (h.receive x _).done
  | .reelNoteReleased x _ _ _ => (h.receive x _).done
  | .reelNoteEmpty x _ _ _ => (h.receive x _).done
  | .reelAsk x _ => (h.receive x _).done
  | .frameSent => h.frameSent.done
  | .frameNotSent => h.frameNotSent.done
  | .busOff => h.busOff.done
  | .busControllerReturn => h.controllerReturn.done
  | .standingTimerExpiry => h.standingExpiry.done
  | .peerAgeing _ => (h.peerAgeing _).done
  | .wantWindowExpiry => h.wantWindowExpiry.done
  | .settleTimerExpiry => execSettleTimerExpiry_keepsTables s
  | .pledgeTimerExpiry _ _ => (h.pledgeExpiry _ _).done
  | .backupDelayExpiry _ _ => (h.backupExpired _ _).done
  | .retryIntervalExpiry => h.retryExpiry.done
  | .askWindowExpiry _ => (h.askWindowExpiry _).done
  | .lineSettled l b => (h.takeLevel l b).done
  | .qualifiedLevelChange l b => (TablesKept.levelChange s l b).done

/-- Every step keeps them: a command of the queue, an expiry that is due, or 1 ms. -/
theorem step_keepsTables (s : State) : KeepsTables s (step s) := by
  unfold step
  split
  · rename_i c rest hp
    refine ⟨fun t ht => ?_⟩
    have hrest : TablesKept s { s with pending := rest } := ⟨id, id, id, id, id, id, id⟩
    exact hrest.trans ((exec_keepsTables c _).next t ht)
  · split
    · exact exec_keepsTables _ s
    · exact (TablesKept.refl s).tick.done

/-- Settles O58: each law in turn, from the one relation that every step keeps. -/
theorem tableLawsAreKept : Obligations.TableLawsAreKept := by
  intro s t hstep
  have h := (step_keepsTables s).next t hstep
  exact ⟨h.grants, h.feeders, h.transfers, h.peers, h.queue, h.memory, h.alarms⟩

end Sys2Proof.Machine
end

section
/-! SUPPORT. Stock Unit: the reel and the slot an ISSUE pulse is counted against (R46, R143), and what the
charge and the count leave of them and of everything else (R132, R144). -/

namespace Sys2Proof.Machine

/-! ## The entry a pulse meets -/

/-- A search of which one element of the list alone satisfies the condition finds that element. -/
theorem find?_eq_of_unique {α : Type} {p : α → Bool} {l : List α} {a : α} (ha : a ∈ l)
    (hp : p a = true) (hu : ∀ b ∈ l, p b = true → b = a) : l.find? p = some a := by
  obtain ⟨b, hb⟩ := Option.isSome_iff_exists.mp (List.find?_isSome.mpr ⟨a, ha, hp⟩)
  rw [hb, hu b (List.mem_of_find?_eq_some hb) (List.find?_some hb)]

/-- Two entries that name one feeder are the same entry. -/
theorem StockLaw.feeder_unique {s : State} (h : StockLaw s) {q r : Reel} {f : Feeder}
    (hq : q ∈ s.stock.table) (hr : r ∈ s.stock.table) (hqf : q.feeder = some f)
    (hrf : r.feeder = some f) : q = r := by
  obtain ⟨_, _, _, _, _, hpair⟩ := h
  by_contra hne
  have : Std.Symm fun q r : Reel => q.feeder = none ∨ q.feeder ≠ r.feeder := by
    refine ⟨fun x y hxy => ?_⟩
    by_cases hy : y.feeder = none
    · exact .inl hy
    · exact .inr fun e => hxy.elim (fun hx => hy (e.trans hx)) fun hne => hne e.symm
  rcases hpair.forall hq hr hne with hn | hn
  · rw [hqf] at hn; exact nomatch hn
  · exact hn (hqf.trans hrf.symm)

/-- The reel MOUNTED in a feeder is found. -/
theorem State.mountedIn_eq {s : State} (h : StockLaw s) {r : Reel} {f : Feeder}
    (hr : r ∈ s.stock.table) (hm : r.state = .mounted) (hf : r.feeder = some f) :
    s.mountedIn f = some r := by
  refine find?_eq_of_unique hr (by simp [hm, hf]) fun q hq hp => ?_
  simp only [Bool.and_eq_true, beq_iff_eq] at hp
  obtain ⟨_, hqf⟩ := hp
  exact h.feeder_unique hq hr hqf hf

/-- What a search for the reel of a feeder has found. -/
theorem State.mountedIn_some {s : State} {r : Reel} {f : Feeder} (h : s.mountedIn f = some r) :
    r ∈ s.stock.table ∧ r.state = .mounted ∧ r.feeder = some f := by
  have hp := List.find?_some h
  simp only [Bool.and_eq_true, beq_iff_eq] at hp
  exact ⟨List.mem_of_find?_eq_some h, hp⟩

/-! ## The slot it is charged to -/

/-- The slot a feeder is bound to is found. -/
theorem State.boundSlot_eq {s : State} (h : FeedersBoundOnce s) {f : Feeder} {i : Nat} (hi : i < 4)
    (hb : (s.slot i).bound f = true) : s.boundSlot f = some i := by
  refine find?_eq_of_unique (by simp; omega) hb fun j hj hjb => ?_
  exact h.1 f (by cases f <;> simp) j (by simp at hj; omega) i hi hjb hb

/-- What a search for the slot of a feeder has found. -/
theorem State.boundSlot_some {s : State} {f : Feeder} {i : Nat} (h : s.boundSlot f = some i) :
    i < 4 ∧ (s.slot i).bound f = true := by
  have hm := List.mem_of_find?_eq_some h
  have hb := List.find?_some (p := fun i => (s.slot i).bound f) h
  exact ⟨by simp at hm; omega, hb⟩

/-- A slot with a feeder bound is not IDLE (R39). -/
theorem FeedersBoundOnce.not_idle {s : State} (h : FeedersBoundOnce s) {f : Feeder} {i : Nat}
    (hi : i < 4) (hb : (s.slot i).bound f = true) : (s.slot i).state ≠ .idle := by
  intro hidle
  obtain ⟨ha, hb'⟩ := h.2 i hi hidle
  cases f
  · exact absurd (ha.symm.trans hb) (by decide)
  · exact absurd (hb'.symm.trans hb) (by decide)

/-- A stamp is charged to the slot the feeder is bound to, when that is on a grant from 1 to 63. -/
theorem State.stampSlot_eq_some {s : State} (h : FeedersBoundOnce s) {f : Feeder} {i : Nat}
    (hi : i < 4) (hb : (s.slot i).bound f = true) (hg : (s.slot i).grant ≠ 0) :
    s.stampSlot f = some i := by
  have hn := h.not_idle hi hb
  simp [State.stampSlot, State.boundSlot_eq h hi hb, hn, hg]

/-- A stamp of a feeder that is bound to no slot, or to one on grant 0, is charged to none. -/
theorem State.stampSlot_eq_none {s : State} {f : Feeder}
    (h : ∀ i < 4, (s.slot i).bound f = true → (s.slot i).grant = 0) : s.stampSlot f = none := by
  unfold State.stampSlot
  split
  · rfl
  · next i hb =>
    obtain ⟨hi, hbound⟩ := State.boundSlot_some hb
    exact if_neg fun hc => hc.2 (h i hi hbound)

/-! ## The charge -/

/-- The charge moves the slots, the unassigned count and the alarms only. -/
theorem State.chargeStamp_eq (s : State) (f : Feeder) (d : Nat) :
    s.chargeStamp f d =
      { s with
        slots := (s.chargeStamp f d).slots
        stock := { s.stock with unassigned := (s.chargeStamp f d).stock.unassigned }
        port := (s.chargeStamp f d).port } := by
  unfold State.chargeStamp State.raiseIf
  split
  · split <;> rfl
  · rfl

/-- It raises at most LATE_ISSUE. -/
theorem State.chargeStamp_within (s : State) (f : Feeder) (d : Nat) {l : List Alarm}
    (h : Alarm.lateIssue ∈ l) : RaisedWithin s.port (s.chargeStamp f d).port l := by
  unfold State.chargeStamp
  split
  · exact State.raiseIf_within (s.modSlot _ _) _ h
  · exact .refl _ _

/-- A charge to slot i: that slot is stamped, the unassigned count and the other slots stay, and LATE_ISSUE is
up when the line was low (R46, R143). -/
theorem State.chargeStamp_slot {s : State} {f : Feeder} {i : Nat} (d : Nat) (hi : i < 4)
    (h : s.stampSlot f = some i) :
    (s.chargeStamp f d).stock.unassigned = s.stock.unassigned ∧
    (s.chargeStamp f d).slot i = (s.slot i).stamp d !(s.outs.feed f) ∧
    (∀ j < 4, j ≠ i → (s.chargeStamp f d).slot j = s.slot j) ∧
    (s.outs.feed f = false → (s.chargeStamp f d).alarm .lateIssue = true) := by
  have he : s.chargeStamp f d =
      (s.modSlot i fun sl => sl.stamp d !(s.outs.feed f)).raiseIf (!(s.outs.feed f)) .lateIssue := by
    simp [State.chargeStamp, h]
  have hslot : ∀ j, (s.chargeStamp f d).slot j =
      if j = i ∧ i < 4 then (s.slot i).stamp d !(s.outs.feed f) else s.slot j := fun j => by
    rw [← State.slot_modSlot s i j fun sl => sl.stamp d !(s.outs.feed f), he]
    exact State.slot_eq (by simp) j
  refine ⟨by simp [he], by rw [hslot, if_pos ⟨rfl, hi⟩], fun j _ hj => ?_, fun hlow => ?_⟩
  · rw [hslot, if_neg fun hc => hj hc.1]
  · simp [he, State.raiseIf, hlow]

/-- A charge to no slot: the unassigned count alone rises (R46). -/
theorem State.chargeStamp_unassigned {s : State} {f : Feeder} (d : Nat) (h : s.stampSlot f = none) :
    s.chargeStamp f d =
      { s with stock := { s.stock with unassigned := satAdd s.stock.unassigned 1 } } := by
  simp only [State.chargeStamp, h]
  rfl

/-! ## The count -/

/-- The entry of a reel with one stamp fewer (R143). -/
def Reel.stampIssued (r : Reel) : Reel :=
  { r with remaining := r.remaining - 1, issued := satAdd r.issued 1 }

/-- The charge of a stamp with the stamps issued value that follows it (R132, R143). -/
def State.stampValued (s : State) (f : Feeder) (d : Nat) : State :=
  (s.chargeStamp f d).modStock fun u => { u with issuedValue := stampsValue u.issuedValue d }

/-- A stamp that leaves others on its reel changes the entry in its place (R130). -/
theorem State.countStamp_more {s : State} {f : Feeder} {r : Reel} (h : 1 < r.remaining) :
    s.countStamp f r = (s.stampValued f r.denomination).keepReel r.stampIssued :=
  if_neg (by simp; omega)

/-- The last stamp of a reel empties its entry, which is told (R143). -/
theorem State.countStamp_last {s : State} {f : Feeder} {r : Reel} (h : r.remaining = 1) :
    s.countStamp f r =
      ((s.stampValued f r.denomination).renewReel r.stampIssued.emptied).tellEmpty
        r.stampIssued.emptied :=
  if_pos (by simp [h])

theorem State.enqueue_eq (s : State) (x : BusFrame) :
    s.enqueue x =
      { s with bus := { s.bus with tx := (s.enqueue x).bus.tx }, port := (s.enqueue x).port } := by
  rcases s.enqueue_cases x with ⟨_, e⟩ | ⟨_, _, e⟩ | ⟨_, _, e⟩ | ⟨_, _, e⟩ <;> rw [e] <;> rfl

theorem State.loadFront_eq (s : State) :
    s.loadFront = { s with bus := { s.bus with tx := s.loadFront.bus.tx } } := by
  unfold State.loadFront
  split <;> rfl

/-- Handing a frame over moves the transmit queue and the alarms only. -/
theorem State.handOver_eq (s : State) (x : BusFrame) :
    s.handOver x =
      { s with bus := { s.bus with tx := (s.handOver x).bus.tx }, port := (s.handOver x).port } := by
  rw [State.handOver, State.loadFront_eq, State.enqueue_eq]

theorem State.tellEmpty_eq (s : State) (r : Reel) :
    s.tellEmpty r =
      { s with bus := { s.bus with tx := (s.tellEmpty r).bus.tx }, port := (s.tellEmpty r).port } := by
  rw [State.tellEmpty, State.handOver_eq]
  rfl

theorem State.tellEmpty_within (s : State) (r : Reel) {l : List Alarm} (ht : Alarm.txOverflow ∈ l)
    (he : Alarm.reelEmpty ∈ l) : RaisedWithin s.port (s.tellEmpty r).port l :=
  (s.handOver_within _ ht).trans (State.raise_within _ he)

/-- What R121 gives does not depend on more than the transmit queue, the state of the bus, and TX_OVERFLOW. -/
theorem HandedOver.congr {s t s' t' : State} {x : BusFrame} (h : HandedOver s t x)
    (hs : s'.bus = s.bus) (ht : t'.bus = t.bus)
    (ha : t.alarm .txOverflow = true → t'.alarm .txOverflow = true) : HandedOver s' t' x := by
  have hk : ∀ u v : State, u.bus = v.bus → framesKept u = framesKept v := fun u v e => by
    unfold framesKept; rw [e]
  have hq : ∀ u v : State, u.bus = v.bus → (Queued u x ↔ Queued v x) := fun u v e => by
    unfold Queued; rw [e]
  have hsends : s'.busSends = s.busSends := by unfold State.busSends; rw [hs]
  unfold HandedOver QueueKept at *
  rw [hsends, hs, ht, hk _ _ hs, hk _ _ ht, hq _ _ hs, hq _ _ ht]
  obtain ⟨hroom, hfull, hrest⟩ := h
  exact ⟨hroom, fun h => (hfull h).imp_right ha, hrest⟩

/-- An emptying hands its note over (R143). -/
theorem State.tellEmpty_handedOver (s : State) (r : Reel) :
    HandedOver s (s.tellEmpty r) (r.note .empty) :=
  (s.handOver_handedOver _).congr rfl rfl
    (RaisedWithin.alarm (State.raise_within _ (List.mem_singleton.mpr rfl)))

/-! ## What a count leaves -/

section
variable (s : State) (f : Feeder) {r : Reel} (h : 0 < r.remaining)
include h

/-- A count either leaves stamps on its reel or empties it. -/
theorem State.countStamp_cases :
    1 < r.remaining ∧ s.countStamp f r = (s.stampValued f r.denomination).keepReel r.stampIssued ∨
    r.remaining = 1 ∧ s.countStamp f r =
      ((s.stampValued f r.denomination).renewReel r.stampIssued.emptied).tellEmpty
        r.stampIssued.emptied := by
  rcases Nat.lt_or_eq_of_le h with h1 | h1
  · exact .inl ⟨h1, State.countStamp_more h1⟩
  · exact .inr ⟨h1.symm, State.countStamp_last h1.symm⟩

/-- A count moves the slots, the table of reels with two counters, the transmit queue and the alarms only. -/
theorem State.countStamp_eq :
    s.countStamp f r =
      { s with
        slots := (s.chargeStamp f r.denomination).slots
        stock := { s.stock with
          table := (s.countStamp f r).stock.table
          issuedValue := stampsValue s.stock.issuedValue r.denomination
          unassigned := (s.chargeStamp f r.denomination).stock.unassigned }
        bus := { s.bus with tx := (s.countStamp f r).bus.tx }
        port := (s.countStamp f r).port } := by
  rcases s.countStamp_cases f h with ⟨_, e⟩ | ⟨_, e⟩ <;> rw [e]
  · rw [State.stampValued, State.chargeStamp_eq]
    rfl
  · rw [State.tellEmpty_eq, State.stampValued, State.chargeStamp_eq]
    rfl

/-- What a count raises beyond its charge comes of an emptying (R143). -/
theorem State.countStamp_within_charge {l : List Alarm} (ht : Alarm.txOverflow ∈ l)
    (he : Alarm.reelEmpty ∈ l) :
    RaisedWithin (s.chargeStamp f r.denomination).port (s.countStamp f r).port l := by
  rcases s.countStamp_cases f h with ⟨_, e⟩ | ⟨_, e⟩ <;> rw [e]
  · exact .refl _ _
  · exact State.tellEmpty_within ((s.stampValued f r.denomination).renewReel _) _ ht he

end

/-- A stamp that leaves others on its reel moves its entry and no frame. -/
theorem State.countStamp_more_table (s : State) (f : Feeder) {r : Reel} (h : 1 < r.remaining) :
    (s.countStamp f r).stock.table =
      (s.stock.table.map fun q => if q.id = r.id then r.stampIssued else q) ∧
    (s.countStamp f r).bus = s.bus := by
  rw [State.countStamp_more h, State.stampValued, State.chargeStamp_eq]
  exact ⟨rfl, rfl⟩

/-- The last stamp of a reel takes its entry, emptied, to the newest place, and the note of it is handed over
(R143). -/
theorem State.countStamp_last_told (s : State) (f : Feeder) {r : Reel} (h : r.remaining = 1) :
    (s.countStamp f r).stock.table = otherReels s r.id ++ [r.stampIssued.emptied] ∧
    (s.countStamp f r).alarm .reelEmpty = true ∧
    HandedOver s (s.countStamp f r) (r.stampIssued.emptied.note .empty) := by
  rw [State.countStamp_last h]
  refine ⟨?_, State.alarm_raise_self _ _, (State.tellEmpty_handedOver _ _).congr ?_ rfl id⟩
  · rw [State.tellEmpty_eq, State.stampValued, State.chargeStamp_eq]
    rfl
  · rw [State.stampValued, State.chargeStamp_eq]
    rfl

/-! ## The pulse -/

/-- A pulse is counted against the reel mounted in its feeder when stamps are left on it (R143). -/
theorem State.issue_counted {s : State} (h : StockLaw s) {r : Reel} {f : Feeder}
    (hr : r ∈ s.stock.table) (hm : r.state = .mounted) (hf : r.feeder = some f)
    (hpos : 0 < r.remaining) : s.issue f = s.countStamp f r := by
  simp [State.issue, State.mountedIn_eq h hr hm hf, Nat.ne_of_gt hpos]

/-- Any other pulse is unaccounted (R144). -/
theorem State.issue_unaccounted {s : State} {f : Feeder}
    (h : ∀ r ∈ s.stock.table, r.state = .mounted → r.feeder = some f → r.remaining = 0) :
    s.issue f = s.unaccountedIssue := by
  unfold State.issue
  split
  · next r hr =>
    obtain ⟨hmem, hm, hf⟩ := State.mountedIn_some hr
    exact if_pos (h r hmem hm hf)
  · rfl

/-- The lines after the rise of an ISSUE line are those of R186. -/
theorem State.takeLevel_issueLine (s : State) (f : Feeder) :
    (s.takeLevel (issueLine f) true).lines =
      linesTaken s (if f = .a then .issueA else .issueB) true := by
  cases f <;> rfl

/-- Settles O39: the pulse is a count against the mounted reel, or unaccounted; a count is its charge with an
entry kept or an entry emptied. -/
theorem issueCountsOneStamp : Obligations.IssueCountsOneStamp := by
  intro s hstock hbound f _
  set u := s.takeLevel (issueLine f) true with hu
  have hlines : u.lines = linesTaken s (if f = .a then .issueA else .issueB) true :=
    s.takeLevel_issueLine f
  refine ⟨(u.issue f).driveOutputs, rfl, by simpa using hlines, fun hnone => ?_,
    fun r hr hm hf hpos => ?_⟩
  · rw [State.issue_unaccounted (s := u) hnone]
    exact ⟨rfl, State.raise_within _ (List.mem_singleton.mpr rfl), State.alarm_raise_self _ _⟩
  · rw [State.issue_counted (s := u) hstock hr hm hf hpos]
    have heq := u.countStamp_eq f hpos
    have hslots : ∀ j, ((u.countStamp f r).driveOutputs).slot j =
        (u.chargeStamp f r.denomination).slot j := State.slot_eq (by rw [heq]; rfl)
    have hwithin := u.countStamp_within_charge f hpos
      (l := [.lateIssue, .reelEmpty, .txOverflow]) (by simp) (by simp)
    refine ⟨by rw [heq]; rfl, fun hmax => ?_, u.countStamp_more_table f, fun hlast => ?_,
      fun i hi hb hg => ?_, fun hz => ?_, (u.chargeStamp_within f _ (by simp)).trans hwithin⟩
    · rw [heq]
      exact if_pos hmax
    · obtain ⟨htable, hempty, htold⟩ := u.countStamp_last_told f hlast
      rw [Reel.emptied, Reel.stampIssued, hlast] at htable htold
      rw [hlast]
      exact ⟨htable, hempty, htold.congr rfl rfl id⟩
    · obtain ⟨hun, hi', hother, hlate⟩ :=
        State.chargeStamp_slot r.denomination hi (State.stampSlot_eq_some (s := u) hbound hi hb hg)
      refine ⟨by rw [heq]; exact hun, ?_, fun j hj hne => (hslots j).trans (hother j hj hne),
        fun hlow => hwithin.alarm (hlate hlow)⟩
      rw [hslots, hi', Slot.stamp]
      cases hfeed : s.outs.feed f <;> simp [hu, hfeed, State.slot, satAdd]
    · have hun := State.chargeStamp_unassigned r.denomination (State.stampSlot_eq_none (s := u) hz)
      refine ⟨by rw [heq, hun]; rfl, fun j _ => (hslots j).trans (by rw [hun]; rfl)⟩

end Sys2Proof.Machine
end

section
/-! SUPPORT. The restart (R192): the restart close of one slot and of a row of slots (R57, R97), what the
Stock Unit, the qualifiers and the alarm word keep (R147, R186, R191), and the state that results. -/

namespace Sys2Proof.Machine

/-! ## The restart close of one slot -/

/-- The record that the restart close of slot i enters: one when the slot held a run in progress (R97). -/
def State.restartFinished (s : State) (i : Nat) : Option Finished :=
  if (s.slot i).state = .idle then none
  else (s.slot i).run.map fun id => restartRecord id i s.acct.restartSpoil

/-- A slot record after its restart close (R51, R57). -/
def Slot.restartClosed (sl : Slot) (clampActed : Bool) : Slot :=
  { sl with
    state := .idle, boundA := false, boundB := false, run := none, closeReason := .restart
    clampActed := clampActed }

theorem State.restartSlot_idle {s : State} {i : Nat} (h : (s.slot i).state = .idle) :
    s.restartSlot i = s := if_pos h

/-- The Run Controller with a record entered, if there is one. -/
def RunUnit.addRecord (u : RunUnit) (r : Option Finished) : RunUnit := r.elim u u.addFinished

/-- A slot that is not IDLE enters its record and closes. -/
theorem State.restartSlot_inUse {s : State} {i : Nat} (h : (s.slot i).state ≠ .idle) :
    s.restartSlot i =
      (s.modRuns fun u => u.addRecord (s.restartFinished i)).closeSlot i .restart := by
  unfold State.restartSlot State.restartFinished
  rw [if_neg h, if_neg h]
  split
  · next hrun => rw [hrun]; rfl
  · next id hrun => rw [hrun]; rfl

/-- What slot j reads as after the restart close of slot i. -/
theorem State.slot_restartSlot (s : State) {i : Nat} (hi : i < 4) (j : Nat) :
    (s.restartSlot i).slot j =
      if j = i ∧ (s.slot i).state ≠ .idle then (s.slot i).restartClosed (s.closeClamps i)
      else s.slot j := by
  by_cases h : (s.slot i).state = .idle
  · rw [State.restartSlot_idle h, if_neg fun hc => hc.2 h]
  · rw [State.restartSlot_inUse h, State.slot_closeSlot]
    simp only [hi, h, and_true, ne_eq, not_false_eq_true]
    rfl

/-- What grant record g reads as after the restart close of slot i. -/
theorem State.grant_restartSlot (s : State) (i g : Nat) :
    (s.restartSlot i).grant g =
      if (s.slot i).state ≠ .idle ∧ g = (s.slot i).grant ∧ g ≠ 0 ∧ g < 64 then
        (s.grant g).takeUsage (s.slot i)
      else s.grant g := by
  by_cases h : (s.slot i).state = .idle
  · rw [State.restartSlot_idle h, if_neg fun hc => hc.1 h]
  · have hread := (s.modRuns fun u => u.addRecord (s.restartFinished i)).grant_closeSlot i g .restart
    rw [State.restartSlot_inUse h]
    refine hread.trans ?_
    change (if g = (s.slot i).grant ∧ (s.slot i).grant ≠ 0 ∧ (s.slot i).grant < 64 then
      (s.grant (s.slot i).grant).takeUsage (s.slot i) else s.grant g) = _
    by_cases hg : g = (s.slot i).grant
    · simp only [hg, h, ne_eq, not_false_eq_true, true_and]
    · rw [if_neg fun hc => hg hc.1, if_neg fun hc => hg hc.2.1]

theorem State.restartSlot_runs (s : State) (i : Nat) :
    (s.restartSlot i).runs = s.runs.addRecord (s.restartFinished i) := by
  by_cases h : (s.slot i).state = .idle
  · rw [State.restartSlot_idle h, State.restartFinished, if_pos h]; rfl
  · rw [State.restartSlot_inUse h, State.closeSlot_eq]
    rfl

/-- The restart close of a slot raises at most GRANT_SHORT (R34). -/
theorem State.restartSlot_within (s : State) (i : Nat) {l : List Alarm} (hl : Alarm.grantShort ∈ l) :
    RaisedWithin s.port (s.restartSlot i).port l := by
  by_cases h : (s.slot i).state = .idle
  · rw [State.restartSlot_idle h]; exact .refl _ _
  · rw [State.restartSlot_inUse h, State.port_closeSlot]
    exact State.raiseIf_within (s.modRuns _) _ hl

/-- It moves the grant records, the slots, the Run Controller and the alarms only. -/
theorem State.restartSlot_eq (s : State) (i : Nat) :
    s.restartSlot i =
      { s with
        grants := { s.grants with records := (s.restartSlot i).grants.records }
        slots := (s.restartSlot i).slots, runs := (s.restartSlot i).runs
        port := (s.restartSlot i).port } := by
  by_cases h : (s.slot i).state = .idle
  · rw [State.restartSlot_idle h]
  · rw [State.restartSlot_inUse h]
    generalize hu : (s.modRuns fun u => u.addRecord (s.restartFinished i)) = u
    have hperiod : (u.closeSlot i .restart).grants.period = s.grants.period := by simp [← hu]
    have hgrants : (u.closeSlot i .restart).grants =
        { s.grants with records := (u.closeSlot i .restart).grants.records } :=
      congrArg (GrantTable.mk _) hperiod
    rw [State.closeSlot_eq, ← hgrants, ← hu]
    rfl

/-! ## The slots one after the other -/

/-- The restart close of the slots below n. -/
@[irreducible] def State.restartSlots (s : State) (n : Nat) : State :=
  (List.range n).foldl State.restartSlot s

@[simp] theorem State.restartSlots_zero (s : State) : s.restartSlots 0 = s := by
  simp [State.restartSlots]

theorem State.restartSlots_succ (s : State) (n : Nat) :
    s.restartSlots (n + 1) = (s.restartSlots n).restartSlot n := by
  simp [State.restartSlots, List.range_succ]

/-- They move the grant records, the slots, the Run Controller and the alarms only. -/
theorem State.restartSlots_eq (s : State) (n : Nat) :
    s.restartSlots n =
      { s with
        grants := { s.grants with records := (s.restartSlots n).grants.records }
        slots := (s.restartSlots n).slots, runs := (s.restartSlots n).runs
        port := (s.restartSlots n).port } := by
  induction n with
  | zero => rw [State.restartSlots_zero]
  | succ n ih =>
    rw [State.restartSlots_succ, State.restartSlot_eq]
    generalize (s.restartSlots n).restartSlot n = t
    rw [ih]

theorem State.restartSlots_within (s : State) (n : Nat) {l : List Alarm} (hl : Alarm.grantShort ∈ l) :
    RaisedWithin s.port (s.restartSlots n).port l := by
  induction n with
  | zero => rw [State.restartSlots_zero]; exact .refl _ _
  | succ n ih =>
    rw [State.restartSlots_succ]
    exact ih.trans (State.restartSlot_within _ _ hl)

/-- The slots below n that were not IDLE have closed; the others read as before. -/
theorem State.slot_restartSlots (s : State) {n : Nat} (hn : n ≤ 4) (j : Nat) :
    (s.restartSlots n).slot j =
      if j < n ∧ (s.slot j).state ≠ .idle then
        (s.slot j).restartClosed ((s.restartSlots n).slot j).clampActed
      else s.slot j := by
  induction n with
  | zero => simp
  | succ n ih =>
    have ih := ih (by omega)
    rw [State.restartSlots_succ, State.slot_restartSlot _ (by omega)]
    by_cases hj : j = n
    · subst hj
      have hself : (s.restartSlots j).slot j = s.slot j := by rw [ih, if_neg (by omega)]
      rw [hself]
      by_cases h : (s.slot j).state = .idle
      · simp [h]
      · simp [h, Slot.restartClosed]
    · have hlt : j < n + 1 ↔ j < n := by omega
      simpa only [hj, hlt, false_and, if_false] using ih

/-- A slot not yet reached. -/
theorem State.slot_restartSlots_self (s : State) {n : Nat} (hn : n ≤ 4) :
    (s.restartSlots n).slot n = s.slot n := by
  rw [State.slot_restartSlots s hn, if_neg fun hc => lt_irrefl n hc.1]

/-- A grant that none of the slots below n holds is kept. -/
theorem State.grant_restartSlots_kept (s : State) {n g : Nat} (hn : n ≤ 4)
    (h : ∀ i < n, (s.slot i).state ≠ .idle → (s.slot i).grant ≠ g) :
    (s.restartSlots n).grant g = s.grant g := by
  induction n with
  | zero => rw [State.restartSlots_zero]
  | succ n ih =>
    rw [State.restartSlots_succ, State.grant_restartSlot, State.slot_restartSlots_self s (by omega),
      if_neg fun hc => h n (by omega) hc.1 hc.2.1.symm]
    exact ih (by omega) fun i hi => h i (by omega)

/-- A grant that a slot below n holds, and it alone, has that slot's usage returned once (R34, R57). -/
theorem State.grant_restartSlots_taken {s : State} (hs : GrantsHeldOnce s) {n i : Nat} (hn : n ≤ 4)
    (hi : i < n) (hstate : (s.slot i).state ≠ .idle) (h0 : (s.slot i).grant ≠ 0)
    (h64 : (s.slot i).grant < 64) :
    (s.restartSlots n).grant (s.slot i).grant =
      (s.grant (s.slot i).grant).takeUsage (s.slot i) := by
  induction n with
  | zero => exact absurd hi (Nat.not_lt_zero i)
  | succ n ih =>
    rw [State.restartSlots_succ, State.grant_restartSlot, State.slot_restartSlots_self s (by omega)]
    rcases Nat.lt_succ_iff_lt_or_eq.mp hi with hlt | rfl
    · rw [if_neg fun hc => hlt.ne
        (hs i (by omega) n (by omega) hstate hc.1 hc.2.1 h0)]
      exact ih (by omega) hlt
    · rw [if_pos ⟨hstate, rfl, h0, h64⟩, State.grant_restartSlots_kept s (by omega)]
      exact fun j hj hjs he => hj.ne (hs j (by omega) i (by omega) hjs hstate he (he ▸ h0))

/-- The records entered by them, in the order of the slots (R97). -/
theorem State.restartSlots_runs {s : State} {n : Nat} (hn : n ≤ 4) (hf : s.runs.finished = [])
    (hc : s.runs.endedCount = 0) :
    (s.restartSlots n).runs =
      { s.runs with
        finished := (List.range n).filterMap s.restartFinished
        endedCount := ((List.range n).filterMap s.restartFinished).length } := by
  induction n with
  | zero =>
    rw [State.restartSlots_zero, List.range_zero, List.filterMap_nil, List.length_nil, ← hf, ← hc]
  | succ n ih =>
    have hrec : (s.restartSlots n).restartFinished n = s.restartFinished n := by
      unfold State.restartFinished
      rw [State.slot_restartSlots_self s (by omega), State.restartSlots_eq]
    have hlen : ((List.range n).filterMap s.restartFinished).length ≤ n := by
      simpa using List.length_filterMap_le s.restartFinished (List.range n)
    rw [State.restartSlots_succ, State.restartSlot_runs, hrec, ih (by omega), List.range_succ,
      List.filterMap_append]
    cases hr : s.restartFinished n with
    | none => simp [RunUnit.addRecord, hr]
    | some x =>
      have h8 : ¬ 8 ≤ ((List.range n).filterMap s.restartFinished).length := by omega
      have hmod : (((List.range n).filterMap s.restartFinished).length + 1) % 65536 =
          ((List.range n).filterMap s.restartFinished).length + 1 := by omega
      simp [RunUnit.addRecord, RunUnit.addFinished, hr, h8, hmod]

/-! ## The Stock Unit and the qualifiers -/

/-- No entry of the table is lost. -/
theorem StockUnit.restart_length (u : StockUnit) : u.restart.table.length = u.table.length := by
  have h := List.length_eq_length_filter_add (l := u.table) fun r => r.check == .asking
  simp [StockUnit.restart, h, Nat.add_comm]

/-- An ASKING entry becomes UNVERIFIED, any other stays (R147). -/
theorem StockUnit.restart_mem {u : StockUnit} {r : Reel} (h : r ∈ u.table) :
    (if r.check = .asking then { r with check := .unverified, askWindow := none } else r) ∈
      u.restart.table := by
  unfold StockUnit.restart
  rw [List.mem_append]
  split
  · next ha => exact .inr (List.mem_map.mpr ⟨r, by simp [h, ha], rfl⟩)
  · next ha => exact .inl (by simp [h, ha])

/-- What a restart leaves of a qualifier (R186). -/
theorem LineBank.get_restart (b : LineBank) (l : Line) : b.restart.get l = (b.get l).restart := by
  cases l <;> rfl

/-! ## The whole restart -/

/-- The state in which the slots close: the credit settled, the port and the Run Controller cleared. -/
def State.restartBase (s : State) : State := s.restartPostings.restartPort.restartRuns

/-- The Sharing Unit's part moves that unit and the alarms only. -/
theorem State.restartSharing_eq (s : State) :
    s.restartSharing = { s with share := s.restartSharing.share, port := s.restartSharing.port } := by
  unfold State.restartSharing
  dsimp only
  (repeat' split) <;> rfl

/-- It raises at most UNRESOLVED (R166). -/
theorem State.restartSharing_within (s : State) {l : List Alarm} (hl : Alarm.unresolved ∈ l) :
    RaisedWithin s.port s.restartSharing.port l := by
  unfold State.restartSharing
  dsimp only
  split
  · exact .refl _ _
  · split
    · exact .refl _ _
    · exact State.raise_within (s.modShare _) hl

/-- The state in which the Sharing Unit and the Stock Unit follow. -/
def State.restartClosed (s : State) : State :=
  (s.restartBase.restartSlots 4).modStock StockUnit.restart

theorem State.restartSlots_four (s : State) :
    s.restartSlots 4 = (((s.restartSlot 0).restartSlot 1).restartSlot 2).restartSlot 3 := by
  rw [State.restartSlots_succ, State.restartSlots_succ, State.restartSlots_succ,
    State.restartSlots_succ, State.restartSlots_zero]

/-- The restart is the close of the slots, then the sharing, then three units put to their start (R192). -/
theorem State.restart_eq_sharing (s : State) :
    s.restart =
      { s.restartClosed.restartSharing with
        job := ⟨[], Walker.blank⟩, bus := .restarted
        lines := s.restartClosed.restartSharing.lines.restart } := by
  rw [State.restartClosed, State.restartSlots_four]
  rfl

theorem State.restartClosed_eq (s : State) :
    s.restartClosed =
      { s with
        acct := s.restartPostings.acct
        grants := { s.grants with records := (s.restartBase.restartSlots 4).grants.records }
        slots := (s.restartBase.restartSlots 4).slots, runs := (s.restartBase.restartSlots 4).runs
        stock := s.stock.restart, port := (s.restartBase.restartSlots 4).port } := by
  rw [State.restartClosed]
  generalize ht : s.restartBase.restartSlots 4 = t
  have heq := s.restartBase.restartSlots_eq 4
  rw [ht] at heq
  rw [heq]
  rfl

/-- What a restart moves of each unit (R192). -/
theorem State.restart_eq (s : State) :
    s.restart =
      { s with
        acct := s.restartPostings.acct
        grants := { s.grants with records := (s.restartBase.restartSlots 4).grants.records }
        slots := (s.restartBase.restartSlots 4).slots, runs := (s.restartBase.restartSlots 4).runs
        job := ⟨[], Walker.blank⟩, stock := s.stock.restart, bus := .restarted
        share := s.restart.share, port := s.restart.port, lines := s.lines.restart } := by
  have hsharing := s.restart_eq_sharing
  rw [State.restartSharing_eq, s.restartClosed_eq] at hsharing
  rw [hsharing]

/-- The alarms up after a restart are those of the restart itself (R191). -/
theorem State.restart_within (s : State) :
    RaisedWithin s.restartBase.port s.restart.port [.grantShort, .unresolved] := by
  have hport : s.restart.port = s.restartClosed.restartSharing.port := by
    rw [State.restart_eq_sharing]
  have hclosed : s.restartClosed.port = (s.restartBase.restartSlots 4).port :=
    State.modStock_port _ _
  have hslots : RaisedWithin s.restartBase.port (s.restartBase.restartSlots 4).port
      [.grantShort, .unresolved] := State.restartSlots_within _ _ (by simp)
  have hsharing : RaisedWithin s.restartClosed.port s.restartClosed.restartSharing.port
      [.grantShort, .unresolved] := State.restartSharing_within _ (by simp)
  rw [hport]
  rw [hclosed] at hsharing
  exact hslots.trans hsharing

theorem State.restart_alarms (s : State) {i : Nat} (hi : i < 32)
    (h : s.restart.port.alarms.getLsbD i = true) : i = 0 ∨ i = 11 ∨ i = 22 := by
  obtain ⟨_, hbits⟩ := s.restart_within
  rcases hbits i hi with he | ⟨_, a, ha, hbit⟩
  · rw [he] at h
    have hstarted : Alarm.started.word.getLsbD i = true := h
    rw [Alarm.getLsbD_word _ _ hi, decide_eq_true_iff] at hstarted
    exact .inl hstarted.symm
  · rw [← hbit]
    rcases List.mem_pair.mp ha with rfl | rfl
    · exact .inr (.inl rfl)
    · exact .inr (.inr rfl)

theorem State.restart_started (s : State) : s.restart.alarm .started = true := by
  have hbase : s.restartBase.alarm .started = true := by
    change (Alarm.started.word &&& Alarm.started.word != 0) = true
    decide
  exact s.restart_within.alarm hbase

/-- The Command Port after a restart (R188, R191, R192). -/
theorem State.restart_port (s : State) :
    s.restart.port =
      { s.port with
        settings := none, response := ⟨.ok, []⟩, snapshot := none, protection := true
        alarms := s.restart.port.alarms, mask := 0 } :=
  s.restart_within.1

theorem State.slot_restartBase (s : State) (j : Nat) : s.restartBase.slot j = s.slot j := rfl

/-- What slot j reads as after a restart (R57). -/
theorem State.slot_restart (s : State) {j : Nat} (hj : j < 4) :
    s.restart.slot j =
      if (s.slot j).state = .idle then s.slot j
      else (s.slot j).restartClosed (s.restart.slot j).clampActed := by
  have hslots : s.restart.slot j = (s.restartBase.restartSlots 4).slot j :=
    State.slot_eq (by rw [s.restart_eq]) j
  rw [hslots, State.slot_restartSlots _ le_rfl, State.slot_restartBase]
  by_cases h : (s.slot j).state = .idle
  · simp [h]
  · simp [h, hj, Slot.restartClosed]

/-- What a grant record reads as after a restart. -/
theorem State.grant_restart (s : State) (g : Nat) :
    s.restart.grant g = (s.restartBase.restartSlots 4).grant g := by
  have hleft : s.restart.grants =
      { s.grants with records := (s.restartBase.restartSlots 4).grants.records } := by
    rw [s.restart_eq]
  have hright : (s.restartBase.restartSlots 4).grants =
      { s.grants with records := (s.restartBase.restartSlots 4).grants.records } :=
    congrArg State.grants (s.restartBase.restartSlots_eq 4)
  exact State.grant_eq (hleft.trans hright.symm) g

/-- The record of the run that slot i held in progress, from the state before the restart (R97). -/
def State.restartRecordOf (s : State) (i : Nat) : Option Finished :=
  if (s.slot i).state = .idle then none
  else (s.slot i).run.map fun id =>
    ⟨id, .unknown, i, .restart, s.acct.held, 0, 0, if s.acct.held = 0 then 0 else 1⟩

theorem State.restartFinished_base (s : State) : s.restartBase.restartFinished = s.restartRecordOf :=
  rfl

/-- The Run Controller after a restart (R97). -/
theorem State.restart_runs (s : State) :
    s.restart.runs =
      ⟨[], s.runs.nextId, none, [], none, none,
        [0, 1, 2, 3].filterMap s.restartRecordOf,
        ([0, 1, 2, 3].filterMap s.restartRecordOf).length⟩ := by
  have hruns : s.restart.runs = (s.restartBase.restartSlots 4).runs := by rw [s.restart_eq]
  rw [hruns, State.restartSlots_runs le_rfl rfl rfl, State.restartFinished_base]
  rfl

/-- Both restart instructions carry the restart out; RESET_N and power leave what was shifted out last. -/
theorem exec_restart (s : State) {c : Instr} (hc : c ∈ [Instr.restart, .reset []]) :
    exec c s = .next (State.restart { s with
      port := { s.port with
        spiOut := if c = .restart then s.port.spiOut else .response s.port.response } }).driveOutputs := by
  rcases List.mem_pair.mp hc with rfl | rfl
  · rfl
  · have hpass : s.portCheck .reset [] = none :=
      State.portCheck_none.mpr ⟨by decide, .inr rfl, nofun⟩
    change execReset [] s = _
    rw [execReset, hpass]
    rfl

/-- Settles O16: the slots close one after the other in a state that is cleared already, and the rest is
cleared around them. -/
theorem restartClearsTheVolatileState : Obligations.RestartClearsTheVolatileState := by
  intro s hs c hc
  refine ⟨_, exec_restart s hc, ?_⟩
  generalize (if c = .restart then s.port.spiOut else .response s.port.response) = o
  generalize hu : ({ s with port := { s.port with spiOut := o } } : State) = u
  have heq := u.restart_eq
  have hport := u.restart_port
  have halarms := fun i => u.restart_alarms (i := i)
  have hstarted := u.restart_started
  have hslot := fun i => u.slot_restart (j := i)
  have hkept : ∀ g, (∀ i < 4, (u.slot i).state ≠ .idle → (u.slot i).grant ≠ g) →
      u.restart.grant g = u.grant g := fun g hfree =>
    (u.grant_restart g).trans (u.restartBase.grant_restartSlots_kept le_rfl hfree)
  have htaken : ∀ i < 4, (u.slot i).state ≠ .idle → (u.slot i).grant ≠ 0 → (u.slot i).grant < 64 →
      u.restart.grant (u.slot i).grant = (u.grant (u.slot i).grant).takeUsage (u.slot i) :=
    fun i hi hstate h0 h64 => (u.grant_restart _).trans
      (State.grant_restartSlots_taken (s := u.restartBase) (hu ▸ hs) le_rfl hi hstate h0 h64)
  have hruns := u.restart_runs
  generalize u.restart = t at *
  subst hu
  have hbus : t.bus = .restarted := by rw [heq]
  have hstock : t.stock = s.stock.restart := by rw [heq]
  refine ⟨hport, halarms, hstarted, hslot, fun g _ => hkept g, htaken, by rw [heq]; rfl, ?_, ?_, ?_,
    by rw [heq]; rfl, ?_, ?_, fun r hr => ?_, congrArg BusUnit.state hbus, congrArg BusUnit.tx hbus,
    congrArg BusUnit.peers hbus, congrArg BusUnit.ignored hbus, congrArg BusUnit.standingTimer hbus,
    fun l _ => ?_⟩
  · rw [State.driveOutputs_runs, hruns]
  · rw [State.driveOutputs_runs, hruns]; rfl
  · rw [State.driveOutputs_runs, hruns]
  · rw [State.driveOutputs_stock, hstock]; rfl
  · rw [State.driveOutputs_stock, hstock]; exact StockUnit.restart_length _
  · rw [State.driveOutputs_stock, hstock]; exact StockUnit.restart_mem hr
  · rw [State.driveOutputs_lines, heq]
    simp [LineBank.get_restart, Qualifier.restart]

end Sys2Proof.Machine
end

section
/-! SUPPORT. The Rate Unit: the imprint value of an entry (R71 to R73), the pending table and its day (R65
to R67), and SET DAY with the contact evaluation that follows it (R60, R61, R68, R175). -/

namespace Sys2Proof.Machine

/-! ## The imprint value -/

/-- A division rounded up is the quotient, and one more where a remainder is left. -/
theorem ceilDiv_eq_div_add {d : Nat} (hd : d ≠ 0) (n : Nat) :
    (n + d - 1) / d = n / d + if n % d = 0 then 0 else 1 := by
  have hpred : d - 1 < d := by omega
  have hcarry : d ≤ n % d + (d - 1) ↔ ¬ n % d = 0 := by omega
  rw [Nat.add_sub_assoc (by omega), Nat.add_div (Nat.pos_of_ne_zero hd), Nat.div_eq_of_lt hpred,
    Nat.mod_eq_of_lt hpred, Nat.add_zero]
  simp only [hcarry, ite_not]

/-- The weight an entry prices: 0 stands for the base weight (R71). -/
def RateEntry.priced (e : RateEntry) (w : Nat) : Nat := if w = 0 then e.baseWeight else w

/-- A weight the entry does not price: above the greatest, or above the base with no step (R71). -/
def RateEntry.Overweight (e : RateEntry) (w : Nat) : Prop :=
  e.maxWeight < e.priced w ∨ (e.stepWeight = 0 ∧ e.baseWeight < e.priced w)

theorem RateEntry.steps_overweight {e : RateEntry} {w : Nat} (h : e.Overweight w) :
    e.steps w = .error .overweight := if_pos h

/-- Each weight step begun above the base weight counts (R71). -/
theorem RateEntry.steps_ok {e : RateEntry} {w : Nat} (h : ¬ e.Overweight w) :
    e.steps w = .ok (
      if e.priced w ≤ e.baseWeight then 0
      else (e.priced w - e.baseWeight) / e.stepWeight +
        (if (e.priced w - e.baseWeight) % e.stepWeight = 0 then 0 else 1)) := by
  obtain ⟨_, hstep⟩ := not_or.mp h
  refine (if_neg h).trans ?_
  change (if e.priced w ≤ e.baseWeight then _ else _) = _
  by_cases hb : e.priced w ≤ e.baseWeight
  · rw [if_pos hb, if_pos hb]
  · have hstep : e.stepWeight ≠ 0 := fun h0 => hstep ⟨h0, Nat.not_le.mp hb⟩
    rw [if_neg hb, if_neg hb, ← ceilDiv_eq_div_add hstep]
    rfl

/-- The discount applies where the threshold is set and a count reaches it; a continuous run has none
(R73). -/
theorem RateEntry.discountOf_eq (e : RateEntry) (c : Option Nat) (gross : Nat) :
    e.discountOf c gross =
      if e.threshold ≠ 0 ∧ (∃ n ∈ c, e.threshold ≤ n) then (gross * e.discount + 500) / 1000
      else 0 := by
  cases c <;> simp [RateEntry.discountOf]

/-- A discount of at most 500 tenths of a percent, rounded, is not above the value. -/
theorem RateEntry.discountOf_le {e : RateEntry} (h : e.discount ≤ 500) (c : Option Nat)
    (gross : Nat) : e.discountOf c gross ≤ gross := by
  have hmul : gross * e.discount ≤ gross * 500 := Nat.mul_le_mul_left gross h
  rw [RateEntry.discountOf_eq]
  split <;> omega

/-- What the checks on an entry come to (R64, R65). -/
theorem RateEntry.ok_iff (e : RateEntry) :
    e.ok = true ↔
      (1 ≤ e.base ∧ e.base ≤ 99999) ∧ (1 ≤ e.baseWeight ∧ e.baseWeight ≤ 9999) ∧
      e.stepWeight ≤ 9999 ∧ e.stepValue ≤ 99999 ∧ e.maxWeight ≤ 30000 ∧
      e.baseWeight ≤ e.maxWeight ∧ (e.threshold = 0 ∨ (2 ≤ e.threshold ∧ e.threshold ≤ 9999)) ∧
      e.discount ≤ 500 := by
  simp only [RateEntry.ok, Bool.and_eq_true, decide_eq_true_eq]
  omega

/-- Settles O19: the three results follow the steps and the gross value; the least value is 1. -/
theorem imprintValueFollowsTheRates : Obligations.ImprintValueFollowsTheRates := by
  intro e w c hok weight steps gross discount heavy
  obtain ⟨_, _, _, _, _, _, _, hdiscount⟩ := e.ok_iff.mp hok
  have hd : e.discountOf c gross = discount := e.discountOf_eq c gross
  have hvalue (hlight : ¬ heavy) : e.value w c =
      if 999999 < gross then .error .tooLarge else .ok (max 1 (gross - discount)) := by
    have hsteps : e.steps w = .ok steps := RateEntry.steps_ok hlight
    simp only [RateEntry.value, hsteps, ← hd, gross]
  refine ⟨fun hheavy => ?_, fun hlight hlarge => ?_, fun hlight hle => ⟨?_, ?_⟩⟩
  · rw [RateEntry.value, RateEntry.steps_overweight hheavy]
  · rw [hvalue hlight, if_pos hlarge]
  · rw [hvalue hlight, if_neg (Nat.not_lt.mpr hle)]
    congr 1
    split <;> omega
  · exact hd ▸ RateEntry.discountOf_le hdiscount c gross

/-! ## The pending table -/

/-- What pending entry k reads as once entry `code` has been written (R65). -/
theorem State.pendingRate_setPending (s : State) (code k : Nat) (e : Option RateEntry) (h : code < 32) :
    (s.setPending code e).pendingRate k = if k = code then e else s.pendingRate k := by
  unfold State.pendingRate State.setPending
  by_cases hk : k = code
  · subst hk; simp [h]
  · simp [Ne.symm hk, hk]

theorem writePendingRateBody_bad {p : List Byte} {s : State}
    (h : 31 < field p 0 1 ∨
      (field p 1 1 ≠ 0 ∧ ¬ (field p 1 1 = 1 ∧ (rateOfPayload p).ok = true))) :
    writePendingRateBody p s = (s, refusal .badArgument) := by
  by_cases hcode : 31 < field p 0 1
  · simp [writePendingRateBody, hcode]
  · obtain ⟨h0, h1⟩ := h.resolve_left hcode
    simp only [writePendingRateBody, if_neg hcode, if_neg h0, if_neg h1]

theorem writePendingRateBody_ok {p : List Byte} {s : State} (hcode : field p 0 1 ≤ 31)
    (h : field p 1 1 = 0 ∨ (field p 1 1 = 1 ∧ (rateOfPayload p).ok = true)) :
    writePendingRateBody p s =
      (s.setPending (field p 0 1) (if field p 1 1 = 0 then none else some (rateOfPayload p)),
        okResponse) := by
  have hcode : ¬ 31 < field p 0 1 := Nat.not_lt.mpr hcode
  rcases h with h0 | h1
  · simp [writePendingRateBody, hcode, h0]
  · have h0 : field p 1 1 ≠ 0 := by omega
    simp only [writePendingRateBody, if_neg hcode, if_neg h0, if_pos h1]

theorem setEffectiveDayBody_bad {p : List Byte} {s : State} (h : field p 0 2 ≤ s.rates.day) :
    setEffectiveDayBody p s = (s, refusal .badDay) := if_pos h

theorem setEffectiveDayBody_ok {p : List Byte} {s : State} (h : s.rates.day < field p 0 2) :
    setEffectiveDayBody p s =
      ({ s with rates := { s.rates with effectiveDay := some (field p 0 2) } }, okResponse) :=
  if_neg (Nat.not_le.mpr h)

/-- A protected command that is not taken before configuration: the two refusals of R181, and what is
shown of it once the checks pass. -/
theorem State.runCommand_guarded (s : State) {row : CommandRow} {p : List Byte}
    {body : State → State × Response} {carriedOut : State → Prop}
    (hl : row.minLen ≤ p.length ∧ p.length ≤ row.maxLen) (hb : row.before = false)
    (hr : row.prot = true)
    (h : s.portCheck row p = none → ∃ t, s.runCommand row p body = .next t ∧ carriedOut t) :
    ∃ t, s.runCommand row p body = .next t ∧
      (s.configured = false → Refused s t .notConfigured) ∧
      (s.configured = true → s.port.protection = true → Refused s t .prot) ∧
      (s.configured = true → s.port.protection = false → carriedOut t) := by
  cases hc : s.configured with
  | false =>
    obtain ⟨t, ht, href⟩ := s.runCommand_onlyAnswered body (State.portCheck_notConfigured hl hc hb)
    exact ⟨t, ht, fun _ => href, nofun, nofun⟩
  | true =>
    cases hp : s.port.protection with
    | true =>
      obtain ⟨t, ht, href⟩ := s.runCommand_onlyAnswered body (State.portCheck_prot hl hc hr hp)
      exact ⟨t, ht, nofun, fun _ _ => href, nofun⟩
    | false =>
      obtain ⟨t, ht, hdone⟩ := h (State.portCheck_pass hl hc fun _ => hp)
      exact ⟨t, ht, nofun, nofun, fun _ _ => hdone⟩

/-- Settles O18: WRITE PENDING RATE by its checks and the entry read back, the other two commands by
their bodies behind the checks of R181. -/
theorem pendingTableAndItsDayAreWritten : Obligations.PendingTableAndItsDayAreWritten := by
  intro s p
  refine ⟨fun hlen hc hp => ?_, fun hlen => ⟨?_, ?_⟩⟩
  · have hpass : s.portCheck .writePendingRate p = none :=
      State.portCheck_pass (by simp [hlen, CommandRow.writePendingRate]) hc fun _ => hp
    have hok := (rateOfPayload p).ok_iff
    simp only [rateOfPayload] at hok
    by_cases hbad : 31 < field p 0 1 ∨
        (field p 1 1 ≠ 0 ∧ ¬ (field p 1 1 = 1 ∧ (rateOfPayload p).ok = true))
    · obtain ⟨t, ht, hr⟩ := s.runCommand_bodyRefused _ hpass (writePendingRateBody_bad hbad)
        (by decide)
      refine ⟨t, ht, fun _ => hr, fun _ _ _ => hr, fun hcode hgood => ?_⟩
      rcases hbad with h | ⟨h0, h1⟩
      · exact absurd hcode (Nat.not_le.mpr h)
      · exact absurd ((hgood.resolve_left h0).imp_right hok.mpr) h1
    · obtain ⟨hcode, hgood⟩ := not_or.mp hbad
      have hcode : field p 0 1 ≤ 31 := Nat.not_lt.mp hcode
      have hgood : field p 1 1 = 0 ∨ (field p 1 1 = 1 ∧ (rateOfPayload p).ok = true) := by
        rwa [not_and_not_right, ← or_iff_not_imp_left] at hgood
      have hread := fun k => s.shiftOut.pendingRate_setPending (field p 0 1) k
        (if field p 1 1 = 0 then none else some (rateOfPayload p)) (by omega)
      refine ⟨_, s.runCommand_ok _ hpass (writePendingRateBody_ok hcode hgood),
        fun h => absurd hcode (Nat.not_le.mpr h), fun _ h0 hrange => ?_,
        fun _ _ => ⟨rfl, rfl, (hread _).trans (if_pos rfl),
          fun k _ hne => (hread k).trans (if_neg hne)⟩⟩
      exact absurd ((hgood.resolve_left h0).imp_right hok.mp) hrange
  · refine s.runCommand_guarded (by simp [hlen, CommandRow.setEffectiveDay]) rfl rfl fun hpass => ?_
    by_cases hday : field p 0 2 ≤ s.rates.day
    · obtain ⟨t, ht, hr⟩ := s.runCommand_bodyRefused _ hpass
        (setEffectiveDayBody_bad (s := s.shiftOut) hday) (by decide)
      exact ⟨t, ht, fun _ => hr, fun h => absurd hday (Nat.not_le.mpr h)⟩
    · exact ⟨_, s.runCommand_ok _ hpass
        (setEffectiveDayBody_ok (s := s.shiftOut) (Nat.not_le.mp hday)),
        fun h => absurd h hday, fun _ => rfl⟩
  · change ∃ t, execCancelPending [] s = .next t ∧ _
    unfold execCancelPending
    refine s.runCommand_guarded (by decide) rfl rfl fun hpass => ?_
    exact ⟨_, s.runCommand_ok _ hpass rfl, rfl, rfl, fun k hk => by simp [State.pendingRate, hk]⟩

/-! ## Alarms -/

/-- The alarm word has a bit for each alarm. -/
theorem Alarm.bit_lt (a : Alarm) : a.bit < 32 := by cases a <;> decide

/-- An alarm is the bit of its number in the alarm word. -/
theorem State.alarm_eq_bit (s : State) (a : Alarm) : s.alarm a = s.port.alarms.getLsbD a.bit := by
  have hw : a.word = BitVec.twoPow 32 a.bit := by cases a <;> rfl
  rw [State.alarm, hw, BitVec.and_twoPow]
  cases s.port.alarms.getLsbD a.bit with
  | false => simp
  | true => cases a <;> decide

/-- No two alarms share a bit. -/
theorem Alarm.bit_inj {a b : Alarm} : a.bit = b.bit ↔ a = b := by
  have hinv (x : Alarm) : Alarm.ofNat x.bit = x := by cases x <;> rfl
  exact ⟨fun h => (hinv a).symm.trans ((congrArg Alarm.ofNat h).trans (hinv b)), congrArg Alarm.bit⟩

/-- What a conditional raise makes of each alarm. -/
theorem State.alarm_raiseIf (s : State) (c : Bool) (a b : Alarm) :
    (s.raiseIf c a).alarm b = (s.alarm b || (c && decide (a = b))) := by
  unfold State.raiseIf
  cases c with
  | false => simp
  | true => simp [State.alarm_eq_bit, -State.raise_port, State.raise_bit _ _ _ b.bit_lt, Alarm.bit_inj]

/-- An alarm that is not of the list is as it was. -/
theorem RaisedWithin.alarm_of_not_mem {s t : State} {l : List Alarm}
    (h : RaisedWithin s.port t.port l) {a : Alarm} (ha : a ∉ l) : t.alarm a = s.alarm a := by
  rw [State.alarm_eq_bit, State.alarm_eq_bit]
  refine (h.2 a.bit a.bit_lt).resolve_right ?_
  rintro ⟨_, b, hb, e⟩
  exact ha (Alarm.bit_inj.mp e ▸ hb)

/-- The same response laid into both ports, and no snapshot kept. -/
theorem RaisedWithin.answered {p q : PortUnit} {l : List Alarm} (h : RaisedWithin p q l)
    (r : Response) :
    RaisedWithin { p with response := r, snapshot := none } { q with response := r, snapshot := none }
      l := by
  obtain ⟨hq, hbits⟩ := h
  exact ⟨by rw [hq], hbits⟩

/-! ## The neighbours -/

/-- What the neighbours do reads the port's settings and alarms only, and no output pin. -/
theorem NeighboursActed.of_port {m t m' t' : State} (h : NeighboursActed m' t')
    (hm : m' = { m with port := m'.port }) (hset : m'.port.settings = m.port.settings)
    (ht : t' = { t with port := t'.port, outs := t'.outs })
    (htset : t'.port.settings = t.port.settings) (halarms : t'.port.alarms = t.port.alarms) :
    NeighboursActed m t := by
  have hacct : m'.acct = m.acct := by rw [hm]
  have hshare : m'.share = m.share := by rw [hm]
  have hbus : m'.bus = m.bus := by rw [hm]
  have htshare : t'.share = t.share := by rw [ht]
  have htbus : t'.bus = t.bus := by rw [ht]
  have hsends : m'.busSends = m.busSends := State.busSends_congr (congrArg _ hbus)
  have hchanged : m'.standingChanged = m.standingChanged := by
    unfold State.standingChanged State.surplus
    rw [State.standingFlags_of hacct hshare, hacct, hbus, hset]
  have hform : t'.formStanding = t.formStanding :=
    State.formStanding_congr (by rw [ht]) (by rw [htshare]) (by rw [ht]) htset
  obtain ⟨⟨hwant, ⟨hsub, hloaded⟩, hframe, hsilent⟩, hqueued⟩ := h
  refine ⟨⟨?_, ⟨?_, ?_⟩, ?_, ?_⟩, ?_⟩
  · rw [← htshare, hwant]
    exact State.evalWant_share_congr hacct hshare (congrArg _ hbus) hset
  · simpa only [framesKept, hbus, htbus] using hsub
  · simpa only [hbus, htbus] using hloaded
  · rwa [htbus, hbus] at hframe
  · rwa [hsends, htbus, hbus] at hsilent
  · rwa [hsends, hchanged, hform, State.alarm_eq halarms,
      show Queued t' = Queued t by unfold Queued; rw [htbus]] at hqueued

/-! ## SET DAY -/

theorem RateUnit.swapDue_iff (u : RateUnit) (day : Nat) :
    u.swapDue day = true ↔ ∃ e ∈ u.effectiveDay, e ≤ day := by
  cases h : u.effectiveDay <;> simp [RateUnit.swapDue, h]

/-- The rates after a day advance: the pending table in force when its effective day is reached, else the
day alone (R61, R68). -/
theorem State.dayAdvance_rates (s : State) (day : Nat) :
    (s.dayAdvance day).rates =
      if ∃ e ∈ s.rates.effectiveDay, e ≤ day then
        ⟨day, s.rates.pending, Vector.replicate 32 none, none⟩
      else { s.rates with day := day } := by
  unfold State.dayAdvance
  simp only [← RateUnit.swapDue_iff]
  split <;> rfl

/-- The mode a contact evaluation gives under settings c (R17, R175). -/
def State.contactMode (s : State) (c : Settings) : Mode :=
  if s.acct.mode = .exhausted then .exhausted
  else contactOutcome s.rates.day s.refill.lastContact c.contactDays

/-- The contact evaluation sets that mode and raises its alarm on the change (R175). -/
theorem State.evalContact_eq {s : State} {c : Settings} (h : c ∈ s.port.settings) :
    s.evalContact =
      ((s.setMode (s.contactMode c)).raiseIf
          (decide (s.contactMode c = .contactDue ∧ s.acct.mode ≠ .contactDue)) .contactDue).raiseIf
        (decide (s.contactMode c = .contactLocked ∧ s.acct.mode ≠ .contactLocked)) .contactLocked := by
  have hsame (hm : s.contactMode c = s.acct.mode) : s.setMode (s.contactMode c) = s := by rw [hm]; rfl
  unfold State.evalContact
  rw [Option.mem_def.mp h]
  dsimp only
  split
  · next hstay =>
    have hm : s.contactMode c = s.acct.mode := by
      unfold State.contactMode
      rcases hstay with hx | hx
      · rw [if_pos hx, hx]
      · split
        · next hy => exact hy.symm
        · exact hx.symm
    rw [hsame hm, hm]
    simp [State.raiseIf]
  · next hmove =>
    obtain ⟨hx, hne⟩ := not_or.mp hmove
    have hm : s.contactMode c = contactOutcome s.rates.day s.refill.lastContact c.contactDays :=
      if_neg hx
    rw [← hm] at hne ⊢
    have hon (x : Mode) : decide (s.contactMode c = x ∧ s.acct.mode ≠ x) = (s.contactMode c == x) := by
      by_cases e : s.contactMode c = x
      · subst e; simp [hne]
      · simp [e]
    rw [hon, hon]

/-- No change of mode brings nothing. -/
theorem State.afterMode_same {s : State} {old : Mode} (h : s.acct.mode = old) : s.afterMode old = s :=
  if_pos h

/-- A change of mode that does not leave CONTACT_LOCKED brings the neighbours' evaluations alone. -/
theorem State.afterMode_changed {s : State} {old : Mode} (h : s.acct.mode ≠ old)
    (hlocked : old ≠ .contactLocked) : s.afterMode old = s.afterAvail := by
  rw [State.afterMode, if_neg h, if_neg hlocked]

/-- A raise on a state that differs from m in the port at most. -/
theorem State.raiseIf_of_port {m s : State} (h : s = { m with port := s.port }) (b : Bool)
    (a : Alarm) : s.raiseIf b a = { m with port := (s.raiseIf b a).port } := by
  unfold State.raiseIf
  split
  · exact congrArg (fun w : State => { w with port := (s.raise a).port }) h
  · exact h

/-- A later day reached, before the neighbours act (R61, R68, R175). -/
def State.dayReached (s : State) (day : Nat) : State :=
  ((s.dayAdvance day).evalContact).raiseIf (s.rates.swapDue day) .ratesSwapped

theorem State.advanceBySetDay_eq (s : State) (day : Nat) :
    s.advanceBySetDay day = (s.dayReached day).afterMode s.acct.mode := rfl

/-- Reaching a day moves the rates, the first contact day, the mode, and of the port at most alarms. -/
theorem State.dayReached_eq {s : State} {c : Settings} (h : c ∈ s.port.settings) (day : Nat) :
    s.dayReached day =
      { (s.dayAdvance day).setMode ((s.dayAdvance day).contactMode c) with
        port := (s.dayReached day).port } := by
  unfold State.dayReached
  rw [State.evalContact_eq (s := s.dayAdvance day) h]
  exact State.raiseIf_of_port (State.raiseIf_of_port (State.raiseIf_of_port rfl _ _) _ _) _ _

theorem State.dayReached_within {s : State} {c : Settings} (h : c ∈ s.port.settings) (day : Nat) :
    RaisedWithin s.port (s.dayReached day).port [.ratesSwapped, .contactDue, .contactLocked] := by
  unfold State.dayReached
  rw [State.evalContact_eq (s := s.dayAdvance day) h]
  exact ((State.raiseIf_within ((s.dayAdvance day).setMode _) _ (by simp)).trans
    (State.raiseIf_within _ _ (by simp))).trans (State.raiseIf_within _ _ (by simp))

/-- The alarms of a day reached: the swap's, and the contact evaluation's where the mode changes. -/
theorem State.dayReached_alarms {s : State} {c : Settings} (h : c ∈ s.port.settings) (day : Nat) :
    (s.dayReached day).alarm .ratesSwapped = (s.alarm .ratesSwapped || s.rates.swapDue day) ∧
    (s.dayReached day).alarm .contactDue = (s.alarm .contactDue ||
      decide ((s.dayAdvance day).contactMode c = .contactDue ∧ s.acct.mode ≠ .contactDue)) ∧
    (s.dayReached day).alarm .contactLocked = (s.alarm .contactLocked ||
      decide ((s.dayAdvance day).contactMode c = .contactLocked ∧ s.acct.mode ≠ .contactLocked)) := by
  have hbase (a : Alarm) :
      ((s.dayAdvance day).setMode ((s.dayAdvance day).contactMode c)).alarm a = s.alarm a := rfl
  unfold State.dayReached
  rw [State.evalContact_eq (s := s.dayAdvance day) h]
  simp [State.alarm_raiseIf, hbase]

/-- What the neighbours add to a day reached. -/
theorem State.advanceBySetDay_cases {s : State} {c : Settings} (h : c ∈ s.port.settings) {day : Nat}
    (hlocked : s.acct.mode ≠ .contactLocked ∨ (s.dayAdvance day).contactMode c = .contactLocked) :
    ((s.dayAdvance day).contactMode c = s.acct.mode ∧ s.advanceBySetDay day = s.dayReached day) ∨
    ((s.dayAdvance day).contactMode c ≠ s.acct.mode ∧
      s.advanceBySetDay day = (s.dayReached day).afterAvail) := by
  have hmode : (s.dayReached day).acct.mode = (s.dayAdvance day).contactMode c := by
    rw [State.dayReached_eq h]; rfl
  rw [← hmode] at hlocked ⊢
  by_cases he : (s.dayReached day).acct.mode = s.acct.mode
  · exact .inl ⟨he, State.afterMode_same he⟩
  · refine .inr ⟨he, State.afterMode_changed he fun hold => ?_⟩
    exact hlocked.elim (fun hne => hne hold) fun hm => he (hm.trans hold.symm)

theorem State.afterAvail_eq (s : State) :
    s.afterAvail =
      { s with bus := s.afterAvail.bus, share := s.afterAvail.share, port := s.afterAvail.port } := by
  have h := s.afterAvail_frame
  cases ht : s.afterAvail
  simp_all

section
variable {s : State} {c : Settings} {day : Nat} (h : c ∈ s.port.settings)
  (hlocked : s.acct.mode ≠ .contactLocked ∨ (s.dayAdvance day).contactMode c = .contactLocked)
include h hlocked

/-- Beyond a day reached only the Bus Interface, the Sharing Unit and alarms move. -/
theorem State.advanceBySetDay_frame_eq :
    s.advanceBySetDay day =
      { (s.dayAdvance day).setMode ((s.dayAdvance day).contactMode c) with
        bus := (s.advanceBySetDay day).bus, share := (s.advanceBySetDay day).share
        port := (s.advanceBySetDay day).port } := by
  rcases State.advanceBySetDay_cases h hlocked with ⟨_, e⟩ | ⟨_, e⟩ <;> rw [e]
  · rw [State.dayReached_eq h]
  · rw [State.afterAvail_eq, State.dayReached_eq h]

/-- Without a change of mode the Sharing Unit and the Bus Interface stay as they are. -/
theorem State.advanceBySetDay_mode_same
    (hm : (s.dayAdvance day).contactMode c = s.acct.mode) :
    (s.advanceBySetDay day).share = s.share ∧ (s.advanceBySetDay day).bus = s.bus := by
  rcases State.advanceBySetDay_cases h hlocked with ⟨_, e⟩ | ⟨hne, _⟩
  · rw [e, State.dayReached_eq h]; exact ⟨rfl, rfl⟩
  · exact absurd hm hne

/-- On a change of mode the neighbours act. -/
theorem State.advanceBySetDay_mode_changed
    (hm : (s.dayAdvance day).contactMode c ≠ s.acct.mode) :
    NeighboursActed (s.dayReached day) (s.advanceBySetDay day) := by
  rcases State.advanceBySetDay_cases h hlocked with ⟨he, _⟩ | ⟨_, e⟩
  · exact absurd he hm
  · rw [e]; exact State.afterAvail_neighboursActed _

/-- The neighbours raise at most their own alarms. -/
theorem State.advanceBySetDay_within :
    RaisedWithin (s.dayReached day).port (s.advanceBySetDay day).port neighbourAlarms := by
  rcases State.advanceBySetDay_cases h hlocked with ⟨_, e⟩ | ⟨_, e⟩ <;> rw [e]
  · exact .refl _ _
  · exact State.afterAvail_within _ (by simp [neighbourAlarms]) (by simp [neighbourAlarms])

end

theorem setDayBody_earlier {p : List Byte} {s : State} (h : field p 0 2 < s.rates.day) :
    setDayBody p s = (s, ⟨.badDay, s.dayBytes⟩) := if_pos h

theorem setDayBody_same {p : List Byte} {s : State} (h : field p 0 2 = s.rates.day) :
    setDayBody p s = (s, ⟨.ok, s.dayBytes⟩) := by
  simp [setDayBody, h]

theorem setDayBody_later {p : List Byte} {s : State} (h : s.rates.day < field p 0 2) :
    setDayBody p s =
      (s.advanceBySetDay (field p 0 2), ⟨.ok, (s.advanceBySetDay (field p 0 2)).dayBytes⟩) := by
  rw [setDayBody, if_neg (by omega), if_neg (by omega)]

/-- The response carries the day reached and the effective day as the swap leaves it (R60). -/
theorem State.advanceBySetDay_dayBytes (s : State) (day : Nat) :
    (s.advanceBySetDay day).dayBytes =
      beBytes 2 day ++ beBytes 2 ((s.dayAdvance day).rates.effectiveDay.getD 0) := by
  have hrates : (s.advanceBySetDay day).rates = (s.dayAdvance day).rates := by
    simp [State.advanceBySetDay_eq, State.dayReached]
  rw [State.dayBytes, hrates]
  rfl

/-- A state that differs from m in the Bus Interface, the Sharing Unit and the port, answered: in the
output pins too. -/
theorem State.answered_eq {m u : State}
    (hu : u = { m with bus := u.bus, share := u.share, port := u.port }) (f : PortUnit → PortUnit) :
    (u.modPort f).driveOutputs =
      { m with
        share := (u.modPort f).driveOutputs.share, bus := (u.modPort f).driveOutputs.bus
        port := (u.modPort f).driveOutputs.port, outs := (u.modPort f).driveOutputs.outs } :=
  congrArg (fun w : State =>
    { w with port := f u.port, outs := (u.modPort f).driveOutputs.outs }) hu

/-- Settles O17: the three days by the body's cases; a later day as the day reached and, on a change of
mode, the neighbours. -/
theorem setDayMovesTheDayForward : Obligations.SetDayMovesTheDayForward := by
  intro s p hlen c hc hp day swaps rates contact mode m
  have hpass : s.portCheck .setDay p = none :=
    State.portCheck_pass (by simp [hlen, CommandRow.setDay])
      (by simp [State.configured, Option.mem_def.mp hc]) fun _ => hp
  rcases lt_trichotomy day s.rates.day with hlt | heq | hgt
  · refine ⟨_, s.runCommand_done _ hpass, fun _ => ?_, fun h => absurd h (by omega),
      fun h => absurd h (by omega)⟩
    rw [setDayBody_earlier (s := s.shiftOut) hlt]
    rfl
  · obtain ⟨t, ht, hr⟩ := s.runCommand_onlyRead _ hpass (setDayBody_same (s := s.shiftOut) heq)
    exact ⟨t, ht, fun h => absurd h (by omega), fun _ => hr, fun h => absurd h (by omega)⟩
  · have hrates : (s.shiftOut.dayAdvance day).rates = rates := s.shiftOut.dayAdvance_rates day
    have hbody : setDayBody p s.shiftOut = (s.shiftOut.advanceBySetDay day,
        ⟨.ok, beBytes 2 day ++ beBytes 2 (rates.effectiveDay.getD 0)⟩) := by
      rw [setDayBody_later (s := s.shiftOut) hgt, State.advanceBySetDay_dayBytes, ← hrates]
    refine ⟨_, s.runCommand_ok _ hpass hbody, fun h => absurd h (by omega),
      fun h => absurd h (by omega), fun _ hlocked => ?_⟩
    have hm : (s.shiftOut.dayAdvance day).setMode mode = { m with port := s.shiftOut.port } := by
      simp only [m, ← hrates]; rfl
    have hdue : s.shiftOut.rates.swapDue day = decide swaps :=
      Bool.eq_iff_iff.mpr ((s.rates.swapDue_iff day).trans decide_eq_true_iff.symm)
    have hmode : (s.shiftOut.dayAdvance day).contactMode c = mode := rfl
    have hu := State.advanceBySetDay_frame_eq (s := s.shiftOut) (day := day) hc hlocked
    have hsame := State.advanceBySetDay_mode_same (s := s.shiftOut) (day := day) hc hlocked
    have hchanged := State.advanceBySetDay_mode_changed (s := s.shiftOut) (day := day) hc hlocked
    have hnear := State.advanceBySetDay_within (s := s.shiftOut) (day := day) hc hlocked
    have hreached := State.dayReached_eq (s := s.shiftOut) hc day
    have hwithin := State.dayReached_within (s := s.shiftOut) hc day
    obtain ⟨hswapped, hcontactDue, hcontactLocked⟩ := State.dayReached_alarms (s := s.shiftOut) hc day
    simp only [hmode, hm, hdue] at hu hsame hchanged hreached hswapped hcontactDue hcontactLocked
    generalize s.shiftOut.advanceBySetDay day = u at *
    generalize s.shiftOut.dayReached day = v at *
    have hraised {a : Alarm} (ha : a ∉ neighbourAlarms) : u.alarm a = v.alarm a :=
      hnear.alarm_of_not_mem ha
    have hall := (hwithin.mono fun _ => List.mem_append_left neighbourAlarms).trans
      (hnear.mono fun _ => List.mem_append_right _)
    refine ⟨?_, fun hne => ?_, hsame, hall.answered _, ?_, ?_, ?_⟩
    · exact State.answered_eq hu _
    · exact (hchanged hne).of_port hreached (congrArg PortUnit.settings hwithin.1 :) rfl rfl rfl
    · exact (hraised (by decide)).trans hswapped
    · exact (hraised (by decide)).trans hcontactDue
    · exact (hraised (by decide)).trans hcontactLocked

end Sys2Proof.Machine
end

section
/-! SUPPORT. The end of a run (R94): the run leaves the queue and its slot is evaluated (R52, R95), and the
Job Walker is told of the end and of the free place (R105 to R108, R110). -/

namespace Sys2Proof.Machine

/-! ## What the walker may move -/

/-- The walker has acted: of the state only its record, the print queue with the run id counter, and
JOB_STOPPED may have moved, and no two runs of the queue have come to share an id. -/
structure WalkerActed (v u : State) : Prop where
  eq : u = { v with
    job := { v.job with walker := u.job.walker }
    runs := { v.runs with queue := u.runs.queue, nextId := u.runs.nextId }, port := u.port }
  within : RaisedWithin v.port u.port [.jobStopped]
  nodup : (v.runs.queue.map (·.id)).Nodup → (u.runs.queue.map (·.id)).Nodup

theorem WalkerActed.refl (s : State) : WalkerActed s s := ⟨rfl, .refl _ _, id⟩

theorem WalkerActed.trans {s t u : State} (h : WalkerActed s t) (k : WalkerActed t u) :
    WalkerActed s u := by
  refine ⟨?_, h.within.trans k.within, k.nodup ∘ h.nodup⟩
  have heq := k.eq
  rw [h.eq] at heq
  exact heq

/-- A run appended takes the id that the counter gives (R77, R79). -/
theorem State.appendRun_appended {s : State} (h : s.runs.queue.length ≤ 254) (r : Run) :
    Appended s (s.appendRun r) r :=
  ⟨rfl, s.newRunId_free h, s.newRunId_next⟩

/-- An append keeps the ids apart. -/
theorem Appended.nodup {s t : State} {r : Run} (h : Appended s t r)
    (hn : (s.runs.queue.map (·.id)).Nodup) : (t.runs.queue.map (·.id)).Nodup := by
  obtain ⟨hruns, hfree, -⟩ := h
  rw [hruns]
  simp only [List.map_append, List.map_cons, List.map_nil]
  refine List.Nodup.append hn (List.nodup_singleton _) fun id hid hnew => ?_
  obtain ⟨q, hq, rfl⟩ := List.mem_map.mp hid
  exact hfree q hq (List.mem_singleton.mp hnew)

/-- A slot is fit for a job line when it is OPEN on a grant from 1 to 63 (R106). -/
theorem State.slotFit_iff (s : State) (i : Nat) :
    s.slotFit i = true ↔ (s.slot i).state = .opened ∧ (s.slot i).grant ≠ 0 := by
  simp [State.slotFit]

/-! ## The append of a line -/

/-- The three outcomes of the append of a line copy: appended, WAITING, FAULTED (R106). -/
theorem State.walkerAppend_appended {s : State} {c : LineCopy} (h : s.job.walker.copy = some c)
    (hfit : s.slotFit c.slot = true) (hlen : s.runs.queue.length < 8) :
    s.walkerAppend = (s.appendRun (c.run s.job.walker.lineAddress)).modWalker fun w =>
      { w with state := .running, run := some s.newRunId } := by
  simp only [State.walkerAppend, h, hfit, hlen, if_true]

theorem State.walkerAppend_waits {s : State} {c : LineCopy} (h : s.job.walker.copy = some c)
    (hfit : s.slotFit c.slot = true) (hlen : ¬ s.runs.queue.length < 8) :
    s.walkerAppend = s.modWalker fun w => { w with state := .waiting } := by
  simp only [State.walkerAppend, h, hfit, hlen, if_true, if_false]

theorem State.walkerAppend_faults {s : State} {c : LineCopy} (h : s.job.walker.copy = some c)
    (hfit : ¬ s.slotFit c.slot = true) : s.walkerAppend = s.walkerFault .slotNotOpen := by
  simp only [State.walkerAppend, h, if_neg hfit]

theorem State.walkerAppend_noCopy {s : State} (h : s.job.walker.copy = none) :
    s.walkerAppend = s := by
  simp only [State.walkerAppend, h]

/-- What can become of an append, its four cases. -/
theorem State.walkerAppend_cases (s : State) :
    (s.job.walker.copy = none ∧ s.walkerAppend = s) ∨
    ∃ c, s.job.walker.copy = some c ∧
      ((s.slotFit c.slot = true ∧ s.runs.queue.length < 8 ∧
          s.walkerAppend = (s.appendRun (c.run s.job.walker.lineAddress)).modWalker fun w =>
            { w with state := .running, run := some s.newRunId }) ∨
        (s.slotFit c.slot = true ∧ ¬ s.runs.queue.length < 8 ∧
          s.walkerAppend = s.modWalker fun w => { w with state := .waiting }) ∨
        (¬ s.slotFit c.slot = true ∧ s.walkerAppend = s.walkerFault .slotNotOpen)) := by
  cases hc : s.job.walker.copy with
  | none => exact .inl ⟨rfl, State.walkerAppend_noCopy hc⟩
  | some c =>
    refine .inr ⟨c, rfl, ?_⟩
    by_cases hfit : s.slotFit c.slot = true
    · by_cases hlen : s.runs.queue.length < 8
      · exact .inl ⟨hfit, hlen, State.walkerAppend_appended hc hfit hlen⟩
      · exact .inr (.inl ⟨hfit, hlen, State.walkerAppend_waits hc hfit hlen⟩)
    · exact .inr (.inr ⟨hfit, State.walkerAppend_faults hc hfit⟩)

/-- The append by the walker of s is the append of R106. -/
theorem State.walkerAppend_lineAppended {s : State} {c : LineCopy}
    (h : s.job.walker.copy = some c) : LineAppended s s.walkerAppend s.job.walker c := by
  unfold LineAppended
  simp only [← State.slotFit_iff]
  by_cases hfit : s.slotFit c.slot = true
  · rw [if_pos hfit]
    by_cases hlen : s.runs.queue.length < 8
    · rw [if_pos hlen, State.walkerAppend_appended h hfit hlen]
      exact ⟨rfl, s.appendRun_appended (by omega) (c.run s.job.walker.lineAddress)⟩
    · rw [if_neg hlen, State.walkerAppend_waits h hfit hlen]
      exact ⟨rfl, rfl⟩
  · rw [if_neg hfit, State.walkerAppend_faults h hfit]
    exact ⟨rfl, rfl, State.alarm_raise_self _ _⟩

/-- The fetch of a line by the walker of s is the fetch of R105 and R106. -/
theorem State.walkerFetch_lineFetched (s : State) (a : Nat) (x y : Bool) :
    LineFetched s (s.walkerFetch a x y) s.job.walker a x y := by
  unfold LineFetched State.walkerFetch
  cases parseLine s.job.memory a x y with
  | none => exact ⟨rfl, rfl, State.alarm_raise_self _ _⟩
  | some c => exact State.walkerAppend_lineAppended (s := State.modWalker (s.modWalker _) _) rfl

section
variable {s t : State} (h : WalkerActed s t)
include h

theorem WalkerActed.modWalker (f : Walker → Walker) : WalkerActed s (t.modWalker f) :=
  h.trans ⟨rfl, .refl _ _, id⟩

theorem WalkerActed.raiseStopped : WalkerActed s (t.raise .jobStopped) :=
  h.trans ⟨rfl, t.raise_within (by simp), id⟩

theorem WalkerActed.walkerFault (c : StopReason) : WalkerActed s (t.walkerFault c) :=
  (h.modWalker _).raiseStopped

theorem WalkerActed.appendRun (hl : t.runs.queue.length ≤ 254) (r : Run) :
    WalkerActed s (t.appendRun r) :=
  h.trans ⟨rfl, .refl _ _, (State.appendRun_appended hl r).nodup⟩

theorem WalkerActed.walkerAppend : WalkerActed s t.walkerAppend := by
  rcases t.walkerAppend_cases with ⟨-, e⟩ | ⟨c, -, ⟨-, hl, e⟩ | ⟨-, -, e⟩ | ⟨-, e⟩⟩ <;> rw [e]
  · exact h
  · exact (h.appendRun (by omega) _).modWalker _
  · exact h.modWalker _
  · exact h.walkerFault _

theorem WalkerActed.walkerFetch (a : Nat) (x y : Bool) : WalkerActed s (t.walkerFetch a x y) := by
  unfold State.walkerFetch
  split
  · exact (h.modWalker _).walkerFault _
  · exact ((h.modWalker _).modWalker _).walkerAppend

theorem WalkerActed.walkerFollow (c : LineCopy) : WalkerActed s (t.walkerFollow c) := by
  unfold State.walkerFollow
  split
  · exact (h.modWalker _).raiseStopped
  · split
    · exact (h.modWalker _).raiseStopped
    · exact h.walkerFetch _ _ _

theorem WalkerActed.walkerRunEnded (c : EndReason) (n : Nat) :
    WalkerActed s (t.walkerRunEnded c n) := by
  unfold State.walkerRunEnded
  dsimp only
  split
  · exact (h.modWalker _).modWalker _
  · split
    · exact h.modWalker _
    · split
      · exact ((h.modWalker _).modWalker _).walkerFollow _
      · exact ((h.modWalker _).modWalker _).raiseStopped
      · exact (h.modWalker _).walkerFault _

theorem WalkerActed.tellWalker (r : Run) (c : EndReason) : WalkerActed s (t.tellWalker r c) := by
  unfold State.tellWalker
  split
  · exact h.walkerRunEnded _ _
  · exact h

theorem WalkerActed.walkerPlaceFree : WalkerActed s t.walkerPlaceFree := by
  unfold State.walkerPlaceFree
  split
  · exact h.walkerAppend
  · exact h

end

/-! ## The walker told of an end -/

/-- A walker that does not wait has nothing to do when a place is free. -/
theorem State.walkerPlaceFree_idle {s : State} (h : s.job.walker.state ≠ .waiting) :
    s.walkerPlaceFree = s := if_neg h

/-- A walker that began to wait within this step finds the queue full again. -/
theorem State.walkerAppend_placeFree (s : State) (h : s.job.walker.copy.isSome = true) :
    s.walkerAppend.walkerPlaceFree = s.walkerAppend := by
  rcases s.walkerAppend_cases with ⟨hc, -⟩ | ⟨c, hc, ⟨-, -, e⟩ | ⟨hfit, hlen, e⟩ | ⟨-, e⟩⟩
  · rw [hc] at h; cases h
  · rw [e]; exact State.walkerPlaceFree_idle nofun
  · rw [e]
    exact State.walkerAppend_waits (s := s.modWalker fun w => { w with state := .waiting }) hc hfit hlen
  · rw [e]; exact State.walkerPlaceFree_idle nofun

theorem State.walkerFetch_placeFree (s : State) (a : Nat) (x y : Bool) :
    (s.walkerFetch a x y).walkerPlaceFree = s.walkerFetch a x y := by
  unfold State.walkerFetch
  split
  · exact State.walkerPlaceFree_idle nofun
  · exact State.walkerAppend_placeFree _ rfl

/-- The end of another run tells the walker nothing. -/
theorem State.tellWalker_other {s : State} {r : Run} (h : s.job.walker.run ≠ some r.id)
    (c : EndReason) : s.tellWalker r c = s := if_neg h

theorem State.tellWalker_own {s : State} {r : Run} (h : s.job.walker.run = some r.id)
    (c : EndReason) : s.tellWalker r c = s.walkerRunEnded c r.printed := if_pos h

/-- After a halt the end of its run leaves the walker IDLE (R110). -/
theorem State.walkerRunEnded_halted {s : State} (h : s.job.walker.haltPending = true)
    (c : EndReason) (n : Nat) :
    s.walkerRunEnded c n =
      s.modWalker fun w => { w with run := none, state := .idle, haltPending := false } := by
  simp only [State.walkerRunEnded, h, if_true]
  rfl

section
variable {s : State} {l : LineCopy} (hh : s.job.walker.haltPending = false)
  (hc : s.job.walker.copy = some l) (n : Nat)
include hh hc

/-- After COMPLETE the walker counts the line and acts on its link (R107). -/
theorem State.walkerRunEnded_complete :
    s.walkerRunEnded .complete n =
      (s.modWalker fun w => { w with
        run := none, linesDone := (w.linesDone + 1) % 65536 }).walkerFollow l := by
  simp only [State.walkerRunEnded, hh, hc, Bool.false_eq_true, if_false]
  rfl

/-- After NO_CREDIT it is HELD (R108). -/
theorem State.walkerRunEnded_noCredit :
    s.walkerRunEnded .noCredit n = (s.modWalker fun w => { w with run := none }).walkerHoldCredit l n := by
  simp only [State.walkerRunEnded, hh, hc, Bool.false_eq_true, if_false]

/-- After any other reason it is FAULTED (R108). -/
theorem State.walkerRunEnded_other {c : EndReason} (h1 : c ≠ .complete) (h2 : c ≠ .noCredit) :
    s.walkerRunEnded c n = (s.modWalker fun w => { w with run := none }).walkerFault (.ended c) := by
  unfold State.walkerRunEnded
  rw [hc, hh]
  cases c with
  | complete => exact absurd rfl h1
  | noCredit => exact absurd rfl h2
  | _ => rfl

end

/-- What the walker does when a run has ended is what R94 (steps 5 and 6), R105 to R108 and R110 give. -/
theorem State.walkerTold (v : State) (r : Run) (c : EndReason) :
    WalkerTold v (v.tellWalker r c).walkerPlaceFree r c := by
  have hacted := ((WalkerActed.refl v).tellWalker r c).walkerPlaceFree
  refine ⟨hacted.eq, hacted.within, fun hother hwait => ?_, fun hother hwait l hl => ?_,
    fun hown hhalt => ?_, fun hown hhalt l hl => ⟨?_, ?_, ?_⟩⟩
  · rw [State.tellWalker_other hother, State.walkerPlaceFree_idle hwait]
  · rw [State.tellWalker_other hother, State.walkerPlaceFree, if_pos hwait]
    exact State.walkerAppend_lineAppended hl
  · rw [State.tellWalker_own hown, State.walkerRunEnded_halted hhalt]
    exact State.walkerPlaceFree_idle nofun
  · rintro rfl
    rw [State.tellWalker_own hown, State.walkerRunEnded_complete hhalt hl, State.walkerFollow]
    refine ⟨fun hend => ?_, fun hend hhold => ?_, fun hend hhold => ?_⟩
    · rw [if_pos hend, State.walkerPlaceFree_idle]
      · exact ⟨rfl, State.alarm_raise_self _ _, rfl⟩
      · nofun
    · rw [hend, if_neg nofun, if_pos hhold, State.walkerPlaceFree_idle]
      · exact ⟨rfl, State.alarm_raise_self _ _, rfl⟩
      · nofun
    · rw [hend, if_neg nofun, hhold, if_neg nofun, State.walkerNext, State.walkerFetch_placeFree]
      exact State.walkerFetch_lineFetched (v.modWalker _) _ _ _
  · rintro rfl
    rw [State.tellWalker_own hown, State.walkerRunEnded_noCredit hhalt hl, State.walkerPlaceFree_idle]
    · exact ⟨rfl, State.alarm_raise_self _ _, rfl⟩
    · nofun
  · intro h1 h2
    rw [State.tellWalker_own hown, State.walkerRunEnded_other hhalt hl _ h1 h2, State.walkerPlaceFree_idle]
    · exact ⟨rfl, State.alarm_raise_self _ _, rfl⟩
    · nofun

end Sys2Proof.Machine
end

section
/-! SUPPORT. A run leaves the queue (R52, R94, R95): its record, its slot, and the steps of R94 as a whole. -/

namespace Sys2Proof.Machine

/-! ## The slot of a run that has ended -/

/-- A slot record without a run in progress that has ended (R52). -/
def Slot.without (sl : Slot) (id : Nat) : Slot :=
  { sl with run := if sl.run = some id then none else sl.run }

theorem Slot.without_eq (sl : Slot) (id : Nat) :
    sl.without id = if sl.run = some id then { sl with run := none } else sl := by
  unfold Slot.without
  split <;> rfl

/-- The evaluation of R52: a CLOSING slot with no run left closes, any other forgets the run. -/
theorem State.slotRunEnded_eq (s : State) {i : Nat} (hi : i < 4) (id : Nat) :
    s.slotRunEnded i id =
      if (s.slot i).state = .closing ∧ ∀ q ∈ s.runs.queue, q.slot ≠ i then
        (s.modSlot i (·.without id)).closeSlot i (s.slot i).closeReason
      else s.modSlot i (·.without id) := by
  have hmod : (s.modSlot i fun sl => if sl.run = some id then { sl with run := none } else sl) =
      s.modSlot i (·.without id) := by
    simp only [Slot.without_eq]
  have hslot : (s.modSlot i (·.without id)).slot i = (s.slot i).without id :=
    (s.slot_modSlot i i _).trans (if_pos ⟨rfl, hi⟩)
  unfold State.slotRunEnded
  rw [hmod]
  simp only [hslot, State.runsOfSlot_eq_zero]
  rfl

/-- A grant written makes the same table whatever else differs. -/
theorem State.setGrant_grants_congr {s t : State} (h : s.grants = t.grants) (g : Nat) (r : Grant) :
    (s.setGrant g r).grants = (t.setGrant g r).grants := by
  unfold State.setGrant
  split <;> simp [h]

/-- The Grant Table after a close (R51). -/
theorem State.grants_closeSlot (s : State) (i : Nat) (c : CloseReason) :
    (s.closeSlot i c).grants =
      (s.setGrant (s.slot i).grant ((s.grant (s.slot i).grant).takeUsage (s.slot i))).grants := by
  simp [State.closeSlot]

/-- The alarms after a close: GRANT_SHORT is raised when the clamp acts (R51). -/
theorem State.alarm_closeSlot (s : State) (i : Nat) (c : CloseReason) (a : Alarm) :
    (s.closeSlot i c).alarm a =
      (s.alarm a || (s.closeClamps i && decide (Alarm.grantShort = a))) :=
  (State.alarm_eq (congrArg (·.alarms) (s.port_closeSlot i c)) a).trans (s.alarm_raiseIf _ _ a)

/-! ## The queue without the run -/

/-- The run of the queue with an id, where no two share one. -/
theorem State.findRun_eq {s : State} (hn : (s.runs.queue.map (·.id)).Nodup) {r : Run}
    (hr : r ∈ s.runs.queue) : s.findRun r.id = some r :=
  find?_eq_of_unique hr (by simp) fun q hq he =>
    List.inj_on_of_nodup_map hn hq hr (by simpa using he)

/-- The run r has left the queue and its record is added (R94, steps 1 to 3; R95). -/
def State.runDropped (s : State) (r : Run) (c : EndReason) : State :=
  (s.modRuns fun u =>
    ({ u with queue := u.queue.filter fun q => q.id != r.id } : RunUnit).addFinished
      (r.record c)).raise .runEnded

/-- The run r has left the queue, and its slot is evaluated (R94, steps 1 to 4). -/
def State.runGone (s : State) (r : Run) (c : EndReason) : State :=
  (s.runDropped r c).slotRunEnded r.slot r.id

/-- Steps 1 to 6 of R94 are the run gone, and the walker told. -/
theorem State.runEnd_eq {s : State} (hn : (s.runs.queue.map (·.id)).Nodup) {r : Run}
    (hr : r ∈ s.runs.queue) (c : EndReason) :
    s.runEnd r.id c = ((s.runGone r c).tellWalker r c).walkerPlaceFree := by
  unfold State.runEnd
  rw [State.findRun_eq hn hr]
  rfl

/-- The Run Controller once the run has gone; the walker has not moved yet. -/
@[simp] theorem State.runGone_runs (s : State) (r : Run) (c : EndReason) :
    (s.runGone r c).runs =
      ({ s.runs with queue := s.runs.queue.filter fun q => q.id != r.id } : RunUnit).addFinished
        (r.record c) := by
  simp [State.runGone, State.runDropped]

@[simp] theorem State.runGone_job (s : State) (r : Run) (c : EndReason) :
    (s.runGone r c).job = s.job := by
  simp [State.runGone, State.runDropped]

/-- The slot of r closes at its end: it is CLOSING, and no other run of the queue is of it (R52). -/
def State.closesAfter (s : State) (r : Run) : Prop :=
  (s.slot r.slot).state = .closing ∧ ∀ q ∈ s.runs.queue, q.id ≠ r.id → q.slot ≠ r.slot

section
variable (s : State) {r : Run} (hs : r.slot < 4) (c : EndReason)
include hs

/-- The two ends of R52, once the run is dropped. -/
theorem State.runGone_cases :
    (s.closesAfter r ∧ s.runGone r c =
      ((s.runDropped r c).modSlot r.slot (·.without r.id)).closeSlot r.slot
        (s.slot r.slot).closeReason) ∨
    (¬ s.closesAfter r ∧ s.runGone r c = (s.runDropped r c).modSlot r.slot (·.without r.id)) := by
  have hcloses : (((s.runDropped r c).slot r.slot).state = .closing ∧
      ∀ q ∈ (s.runDropped r c).runs.queue, q.slot ≠ r.slot) ↔ s.closesAfter r := by
    simp [State.closesAfter, State.runDropped, RunUnit.addFinished, State.slot]
  have heq := (s.runDropped r c).slotRunEnded_eq hs r.id
  by_cases h : s.closesAfter r
  · exact .inl ⟨h, heq.trans (if_pos (hcloses.mpr h))⟩
  · exact .inr ⟨h, heq.trans (if_neg (mt hcloses.mp h))⟩

/-- What slot j reads as once the run is dropped and forgotten by its slot. -/
theorem State.slot_runDropped (j : Nat) :
    ((s.runDropped r c).modSlot r.slot (·.without r.id)).slot j =
      if j = r.slot then (s.slot r.slot).without r.id else s.slot j := by
  refine (State.slot_modSlot _ _ j _).trans ?_
  simp only [hs, and_true]
  rfl

/-- Steps 1 to 4 of R94 move the queue, the finished runs, the run's slot, its grant and two alarms. -/
theorem State.runGone_onlyRunLeft : OnlyRunLeft s (s.runGone r c) r c := by
  have hslot := s.slot_runDropped hs c
  have hself := (hslot r.slot).trans (if_pos rfl)
  have hruns := s.runGone_runs r c
  have hdropped : RaisedWithin s.port (s.runDropped r c).port [.runEnded, .grantShort] :=
    State.raise_within _ (by simp)
  have hended : (s.runDropped r c).alarm .runEnded = true := State.alarm_raise_self _ _
  have hshort : (s.runDropped r c).alarm .grantShort = s.alarm .grantShort :=
    (s.raise_within (List.mem_singleton.mpr rfl)).alarm_of_not_mem (by decide)
  rcases s.runGone_cases hs c with ⟨hcloses, e⟩ | ⟨hopen, e⟩
  · set v := (s.runDropped r c).modSlot r.slot (·.without r.id) with hv
    have hclamp : v.closeClamps r.slot = decide ((s.slot r.slot).grant ≠ 0 ∧
        (s.grant (s.slot r.slot).grant).kind = .prepaid ∧
        (s.grant (s.slot r.slot).grant).amount <
          (s.slot r.slot).printDelta + (s.slot r.slot).stockDelta) := by
      rw [Bool.eq_iff_iff, State.closeClamps_iff, hself, decide_eq_true_iff]
      rfl
    have hwithin : RaisedWithin v.port (v.closeSlot r.slot (s.slot r.slot).closeReason).port
        [.runEnded, .grantShort] := v.port_closeSlot _ _ ▸ v.raiseIf_within _ (by simp)
    rw [e] at hruns ⊢
    refine ⟨?_, ⟨congrArg (·.queue) hruns, congrArg (·.finished) hruns,
      congrArg (·.endedCount) hruns, ?_, fun j _ hj => ?_, ?_⟩, hdropped.trans hwithin⟩
    · rw [State.closeSlot_eq]
      rfl
    · exact (State.alarm_closeSlot _ _ _ _).trans (by rw [show v.alarm .runEnded = true from hended]; rfl)
    · rw [State.slot_closeSlot, if_neg fun h => hj h.1, hslot, if_neg hj]
    · refine Eq.mpr (if_pos hcloses) ⟨?_, ?_, ?_⟩
      · rw [State.slot_closeSlot, if_pos ⟨rfl, hs⟩, hself, hclamp]
        rfl
      · rw [State.grants_closeSlot, hself]
        exact State.setGrant_grants_congr (s := v) (t := s) rfl _ _
      · refine (State.alarm_closeSlot _ _ _ _).trans ?_
        simp only [hclamp, decide_true, Bool.and_true]
        exact congrArg (· || _) hshort
  · rw [e] at hruns ⊢
    refine ⟨rfl, ⟨congrArg (·.queue) hruns, congrArg (·.finished) hruns,
      congrArg (·.endedCount) hruns, hended, fun j _ hj => (hslot j).trans (if_neg hj), ?_⟩, hdropped⟩
    exact Eq.mpr (if_neg hopen) ⟨hself, rfl, hshort⟩

end

/-- Steps 1 to 6 of R94 for the run r (R94 to R97). -/
theorem State.runEnd_runEnds {s : State} (hn : (s.runs.queue.map (·.id)).Nodup) {r : Run}
    (hr : r ∈ s.runs.queue) (hs : r.slot ≤ 3) (c : EndReason) : RunEnds s (s.runEnd r.id c) r c := by
  rw [State.runEnd_eq hn hr]
  exact ⟨s.runGone r c, s.runGone_onlyRunLeft (by omega) c, State.walkerTold _ r c⟩

/-! ## The bound on the starts that may follow -/

/-- The runs of the queue, and the one that a WAITING walker may still append: each start that ends its
run leaves one fewer (assumption log 35). -/
def State.startBound (s : State) : Nat :=
  s.runs.queue.length + if s.job.walker.state = .waiting then 1 else 0

/-- A WAITING walker that appends waits no more. -/
theorem State.walkerPlaceFree_startBound (s : State) :
    s.walkerPlaceFree.startBound ≤ s.startBound := by
  unfold State.walkerPlaceFree
  split
  · next hw =>
    have hb : s.startBound = s.runs.queue.length + 1 := by rw [State.startBound, if_pos hw]
    rw [hb]
    rcases s.walkerAppend_cases with ⟨-, e⟩ | ⟨c, -, ⟨-, -, e⟩ | ⟨-, -, e⟩ | ⟨-, e⟩⟩ <;> rw [e]
    · exact hb.le
    · simp [State.startBound, State.appendRun]
    · simp [State.startBound]
    · simp [State.startBound, State.walkerFault]
  · exact le_rfl

/-- An end for any reason but COMPLETE brings no line and no wait. -/
theorem State.tellWalker_startBound (s : State) (r : Run) {c : EndReason} (h : c ≠ .complete) :
    (s.tellWalker r c).startBound ≤ s.startBound := by
  have hidle : ∀ u : State, u.runs = s.runs →
      u.job.walker.state ≠ .waiting ∨ u.job.walker.state = s.job.walker.state →
      u.startBound ≤ s.startBound := by
    intro u hruns hstate
    unfold State.startBound
    rw [hruns]
    rcases hstate with hne | he
    · rw [if_neg hne]; omega
    · rw [he]
  unfold State.tellWalker
  split
  · unfold State.walkerRunEnded
    dsimp only
    split
    · exact hidle _ rfl (.inl nofun)
    · split
      · exact hidle _ rfl (.inr rfl)
      · split
        · exact absurd rfl h
        · exact hidle _ rfl (.inl nofun)
        · exact hidle _ rfl (.inl nofun)
  · exact le_rfl

/-- The end of a run of the queue for any reason but COMPLETE lowers the bound. -/
theorem State.runEnd_startBound {s : State} (hn : (s.runs.queue.map (·.id)).Nodup) {r : Run}
    (hr : r ∈ s.runs.queue) {c : EndReason} (hc : c ≠ .complete) :
    (s.runEnd r.id c).startBound < s.startBound := by
  have hfewer : (s.runs.queue.filter fun q => q.id != r.id).length < s.runs.queue.length :=
    List.length_filter_lt_length_iff_exists.mpr ⟨r, hr, by simp⟩
  have hgone : (s.runGone r c).startBound < s.startBound := by
    simpa [State.startBound, RunUnit.addFinished] using hfewer
  rw [State.runEnd_eq hn hr]
  calc ((s.runGone r c).tellWalker r c).walkerPlaceFree.startBound
      ≤ ((s.runGone r c).tellWalker r c).startBound := State.walkerPlaceFree_startBound _
    _ ≤ (s.runGone r c).startBound := State.tellWalker_startBound _ r hc
    _ < s.startBound := hgone

/-- An end leaves the ids apart. -/
theorem State.runEnd_nodup {s : State} (hn : (s.runs.queue.map (·.id)).Nodup) {r : Run}
    (hr : r ∈ s.runs.queue) (c : EndReason) :
    ((s.runEnd r.id c).runs.queue.map (·.id)).Nodup := by
  rw [State.runEnd_eq hn hr]
  refine (((WalkerActed.refl (s.runGone r c)).tellWalker r c).walkerPlaceFree).nodup ?_
  rw [State.runGone_runs]
  exact hn.sublist (List.filter_sublist.map _)

end Sys2Proof.Machine
end

section
/-! SUPPORT. The authorisation of an imprint (R18, R83, R84), and its next one, followed by what a loop of
starts does with the runs that end. -/

namespace Sys2Proof.Machine

/-! ## What the neighbours read -/

/-- What the neighbours do reads the accounts, the Sharing Unit, the Bus Interface and the settings of the
state they start from, and leaves its rates as they are. -/
theorem NeighboursActed.of_units {m m' t : State} (h : NeighboursActed m' t) (ha : m'.acct = m.acct)
    (hs : m'.share = m.share) (hb : m'.bus = m.bus)
    (hp : m'.port.settings = m.port.settings) : NeighboursActed m t := by
  have hsends : m'.busSends = m.busSends := State.busSends_congr (congrArg _ hb)
  have hchanged : m'.standingChanged = m.standingChanged := by
    unfold State.standingChanged State.surplus
    rw [State.standingFlags_of ha hs, ha, hb, hp]
  obtain ⟨⟨hwant, ⟨hsub, hloaded⟩, hframe, hsilent⟩, hqueued⟩ := h
  refine ⟨⟨?_, ⟨?_, ?_⟩, ?_, ?_⟩, ?_⟩
  · rw [hwant]
    exact State.evalWant_share_congr ha hs (congrArg _ hb) hp
  · simpa only [framesKept, hb] using hsub
  · rwa [hb] at hloaded
  · rwa [hb] at hframe
  · rwa [hsends, hb] at hsilent
  · rwa [hsends, hchanged] at hqueued

/-- The output pins driven are nothing to the neighbours. -/
theorem NeighboursActed.driveOutputs {m t : State} (h : NeighboursActed m t) :
    NeighboursActed m t.driveOutputs := h

/-- An alarm already up stays up while the neighbours act. -/
theorem State.afterAvail_keepsAlarm {s : State} {a : Alarm} (h : s.alarm a = true) :
    s.afterAvail.alarm a = true :=
  (s.afterAvail_within (l := [.txOverflow, .wantFailed]) (by simp) (by simp)).alarm h

/-! ## The checks of R83 -/

/-- The imprint may be authorised when no check fails. -/
theorem State.authoriseFails_none {s : State} {r : Run} :
    s.authoriseFails r = none ↔ MayAuthorise s r := by
  unfold State.authoriseFails MayAuthorise
  rw [show usedMax = 1099511627775 from rfl]
  cases s.acct.mode <;> simp <;> grind

theorem State.overUsedMax_iff {s : State} {r : Run} : s.overUsedMax r = true ↔ OverUsed s r := by
  unfold State.overUsedMax OverUsed
  rw [show usedMax = 1099511627775 from rfl]
  simp [and_assoc]

/-- The reason of the first check that fails. -/
theorem State.authoriseFails_some {s : State} {r : Run} (h : ¬ MayAuthorise s r)
    (hm : s.acct.mode ≠ .unconfigured) : s.authoriseFails r = some (authoriseEnd s r) := by
  rw [← State.authoriseFails_none] at h
  unfold State.authoriseFails authoriseEnd at *
  rw [show usedMax = 1099511627775 from rfl] at *
  generalize s.acct.mode = mode at *
  cases mode with
  | unconfigured => exact absurd rfl hm
  | exhausted | contactLocked => rfl
  | active | contactDue => grind

theorem authoriseEnd_overUsed {s : State} {r : Run} (h : OverUsed s r) :
    authoriseEnd s r = .exhausted := by
  obtain ⟨hmode, hday, hused⟩ := h
  unfold authoriseEnd
  rcases hmode with hm | hm <;> simp [hm, hday, hused]

theorem authoriseEnd_ne_complete (s : State) (r : Run) : authoriseEnd s r ≠ .complete := by
  unfold authoriseEnd
  grind

/-! ## The head of the queue changed -/

/-- The record of the head changed, where no two runs share an id. -/
theorem State.modRun_head {s : State} (hn : (s.runs.queue.map (·.id)).Nodup) {r : Run}
    (hr : r ∈ s.runs.queue.head?) (f : Run → Run) :
    s.modRun r.id f = { s with runs := { s.runs with queue := f r :: s.runs.queue.drop 1 } } := by
  obtain ⟨rest, hq⟩ : ∃ rest, s.runs.queue = r :: rest := by
    cases hq : s.runs.queue with
    | nil => rw [hq] at hr; cases hr
    | cons q rest =>
      rw [hq] at hr
      exact ⟨rest, congrArg (· :: rest) (Option.some.inj hr)⟩
  rw [hq, List.map_cons, List.nodup_cons] at hn
  have hrest : (rest.map fun q => if q.id = r.id then f q else q) = rest :=
    (List.map_congr_left fun q hq' =>
      if_neg fun he => hn.1 (List.mem_map.mpr ⟨q, hq', he⟩)).trans (List.map_id _)
  unfold State.modRun State.modRuns
  simp only [hq, List.map_cons, if_true, hrest, List.drop_one, List.tail_cons]

/-! ## EXHAUSTED -/

/-- The mark, the mode and the request once the USED maximum is reached (R18, R153). -/
def State.exhaustedMarked (m : State) : State :=
  { m with
    acct := { m.acct with exhaustedMark := true, mode := .exhausted }
    share := { m.share with request := none } }

/-- The USED maximum reached: its alarms, before the neighbours act. -/
def State.exhaustedRaised (m : State) : State :=
  ((({ m with acct := { m.acct with exhaustedMark := true, mode := .exhausted } } : State).raise
    .exhausted).modShare fun u => { u with request := none }).raiseIf m.share.request.isSome .wantFailed

theorem State.exhaustedRaised_eq (m : State) :
    m.exhaustedRaised = { m.exhaustedMarked with port := m.exhaustedRaised.port } :=
  State.raiseIf_of_port (m := m.exhaustedMarked) rfl _ _

theorem State.exhaustedRaised_within (m : State) :
    RaisedWithin m.port m.exhaustedRaised.port (.exhausted :: neighbourAlarms) :=
  (m.raise_within (by simp)).trans (State.raiseIf_within _ _ (by simp [neighbourAlarms]))

/-- The USED maximum reached (R18, R153). -/
theorem State.enterExhausted_entered (m : State) : ExhaustedEntered m m.enterExhausted := by
  have heq := m.exhaustedRaised_eq
  have hraised := m.exhaustedRaised_within
  have hset : m.exhaustedRaised.port.settings = m.port.settings := by rw [hraised.1]
  have halarm (a : Alarm) : m.exhaustedRaised.alarm a =
      ((m.raise .exhausted).alarm a ||
        (m.share.request.isSome && decide (Alarm.wantFailed = a))) := State.alarm_raiseIf _ _ _ a
  rw [show m.enterExhausted = m.exhaustedRaised.afterAvail from rfl]
  refine ⟨?_, ?_, State.afterAvail_keepsAlarm ?_, fun hreq => State.afterAvail_keepsAlarm ?_, ?_⟩
  · exact (State.afterAvail_eq _).trans (congrArg (fun w : State =>
      { w with
        bus := m.exhaustedRaised.afterAvail.bus, share := m.exhaustedRaised.afterAvail.share
        port := m.exhaustedRaised.afterAvail.port }) heq)
  · exact m.exhaustedRaised.afterAvail_neighboursActed.of_units (by rw [heq]; rfl) (by rw [heq]; rfl)
      (by rw [heq]; rfl) hset
  · rw [halarm, State.alarm_raise_self]
    rfl
  · simp [halarm, Option.isSome_iff_ne_none.mpr hreq]
  · exact hraised.trans
      (State.afterAvail_within _ (by simp [neighbourAlarms]) (by simp [neighbourAlarms]))

/-! ## An imprint authorised -/

/-- A slot record charged with one imprint of a value (R84). -/
def Slot.charged (sl : Slot) (v : Nat) : Slot :=
  { sl with printDelta := sl.printDelta + v, imprints := sl.imprints + 1 }

/-- The state once an imprint is authorised, before the neighbours act (R84). -/
def State.imprintBegun (s : State) (r : Run) : State :=
  ((s.post (.authorise r.latched)).modSlot r.slot (·.charged r.latched)).modRuns fun u =>
    { u with
      inFlight := some ⟨r.id, (s.acct.imprintNo + 1) % 4294967296, r.latched, .sending⟩
      sending := imprintRecord s.refill.serial ((s.acct.imprintNo + 1) % 4294967296) s.rates.day r.latched
        (s.acct.used + r.latched) (s.grant (s.slot r.slot).grant).dept r.id r.endorsements
      sendTimer := some sendingMs }

theorem State.authorisePost_eq (s : State) (r : Run) :
    s.authorisePost r = (s.imprintBegun r).afterAvail := by
  have hno : ((s.post (.authorise r.latched)).modSlot r.slot fun sl =>
      { sl with printDelta := sl.printDelta + r.latched, imprints := sl.imprints + 1 }).acct.imprintNo =
      (s.acct.imprintNo + 1) % 4294967296 :=
    congrArg Accounts.imprintNo (s.post_acct _)
  unfold State.authorisePost
  dsimp only
  rw [hno]
  rfl

/-- A posting moves the accounts, and of the port at most an alarm (R14). -/
theorem State.post_eq (s : State) (p : Posting) :
    s.post p = { s with acct := s.acct.post p, port := (s.post p).port } :=
  State.raiseIf_of_port (m := { s with acct := s.acct.post p })
    (s := { s with acct := s.acct.post p }) rfl _ _

/-- What an imprint authorised moves, before the neighbours act. -/
theorem State.imprintBegun_eq (s : State) (r : Run) :
    s.imprintBegun r = { s with
      acct := s.acct.post (.authorise r.latched), slots := (s.imprintBegun r).slots
      runs := (s.imprintBegun r).runs, port := (s.imprintBegun r).port } :=
  congrArg (fun w : State => { w with
    slots := (s.imprintBegun r).slots, runs := (s.imprintBegun r).runs }) (s.post_eq _)

theorem State.imprintBegun_within (s : State) (r : Run) :
    RaisedWithin s.port (s.imprintBegun r).port [.lowCredit] :=
  s.post_within _ (by simp)

theorem State.imprintBegun_slot (s : State) (r : Run) (hs : r.slot < 4) (j : Nat) :
    (s.imprintBegun r).slot j =
      if j = r.slot then (s.slot j).charged r.latched else s.slot j := by
  have hpost (i : Nat) : (s.post (.authorise r.latched)).slot i = s.slot i := by simp [State.slot]
  change ((s.post (.authorise r.latched)).modSlot r.slot (·.charged r.latched)).slot j = _
  rw [State.slot_modSlot, hpost, hpost]
  simp only [hs, and_true]
  split
  · next h => rw [h]
  · rfl

theorem State.imprintBegun_lowCredit (s : State) (r : Run) :
    (s.imprintBegun r).alarm .lowCredit = (s.alarm .lowCredit ||
      (decide (s.lowWater ≤ s.acct.avail) && decide (s.acct.avail - r.latched < s.lowWater))) := by
  refine (State.alarm_raiseIf { s with acct := s.acct.post (.authorise r.latched) } _ _ _).trans ?_
  simp [Accounts.post]
  rfl

theorem imprintRecord_eq (serial : BitVec 32) (number day value usedAfter dept runId : Nat)
    (endorsements : List Nat) :
    imprintRecord serial number day value usedAfter dept runId endorsements =
      beBytes 1 (22 + endorsements.length) ++ beBytes 4 serial.toNat ++ beBytes 4 number ++
      beBytes 2 day ++ beBytes 3 value ++ beBytes 5 usedAfter ++ beBytes 2 dept ++ beBytes 1 runId ++
      beBytes 1 endorsements.length ++ endorsements.map (BitVec.ofNat 8) := by
  have hone (e : Nat) : beBytes 1 e = [BitVec.ofNat 8 e] := by simp [beBytes]
  unfold imprintRecord
  rw [show (endorsements.flatMap fun e => beBytes 1 e) = endorsements.map (BitVec.ofNat 8) by
    simp only [hone, List.map_eq_flatMap]]

/-- The Run Controller once an imprint is authorised. -/
theorem State.imprintBegun_runs (s : State) (r : Run) :
    (s.imprintBegun r).runs = { s.runs with
      inFlight := some ⟨r.id, (s.acct.imprintNo + 1) % 4294967296, r.latched, .sending⟩
      sending := imprintRecord s.refill.serial ((s.acct.imprintNo + 1) % 4294967296) s.rates.day r.latched
        (s.acct.used + r.latched) (s.grant (s.slot r.slot).grant).dept r.id r.endorsements
      sendTimer := some sendingMs } := by
  simp [State.imprintBegun]

/-- The imprint authorised, and what the neighbours do (R84). -/
theorem State.authorisePost_imprintNext {next : State → State → Prop} {m : State} {r : Run}
    (hmay : MayAuthorise m r) (hs : r.slot ≤ 3) :
    ImprintNext next m (m.authorisePost r).driveOutputs r := by
  refine ⟨fun _ => ?_, fun hnot => absurd hmay hnot⟩
  rw [State.authorisePost_eq]
  have hbegun := m.imprintBegun_eq r
  have hwithin := m.imprintBegun_within r
  have hruns := m.imprintBegun_runs r
  have hslot := m.imprintBegun_slot r (by omega)
  have hlow := m.imprintBegun_lowCredit r
  set b := m.imprintBegun r
  obtain ⟨hacct, -, hslots, -, hruns', -⟩ := b.afterAvail_frame
  have hafter := b.afterAvail_within (l := [.txOverflow, .wantFailed]) (by simp) (by simp)
  have hslot' (j : Nat) : b.afterAvail.driveOutputs.slot j = b.slot j := by
    unfold State.slot
    rw [State.driveOutputs_slots, hslots]
  have hacct' : b.afterAvail.acct = m.acct.post (.authorise r.latched) := by rw [hacct, hbegun]
  have hruns'' := hruns'.trans hruns
  refine ⟨?_, ⟨hacct', ?_, fun j _ hj => ?_, ?_, ?_, ?_⟩, ?_, ?_, ?_, ?_⟩
  · have hall := b.afterAvail_eq.trans (congrArg (fun w : State =>
      { w with bus := b.afterAvail.bus, share := b.afterAvail.share, port := b.afterAvail.port }) hbegun)
    exact congrArg (fun w : State =>
      { w with
        acct := b.afterAvail.acct, slots := b.afterAvail.slots, runs := b.afterAvail.runs
        outs := b.afterAvail.driveOutputs.outs }) hall
  · rw [hslot', hslot, if_pos rfl]
    rfl
  · rw [hslot', hslot, if_neg hj]
  · exact congrArg RunUnit.inFlight hruns''
  · exact (congrArg RunUnit.sending hruns'').trans (imprintRecord_eq ..)
  · exact (congrArg (·.sendTimer.isSome) hruns'').trans rfl
  · exact hruns''.trans (by rw [State.driveOutputs_runs, hruns''])
  · refine NeighboursActed.driveOutputs (b.afterAvail_neighboursActed.of_units ?_ ?_ ?_ ?_)
    · exact hacct.symm
    · rw [hbegun]
    · rw [hbegun]
    · rw [hwithin.1]
  · exact (hwithin.mono (by simp [neighbourAlarms])).trans (hafter.mono (by simp [neighbourAlarms]))
  · exact (hafter.alarm_of_not_mem (by decide)).trans hlow

/-! ## The next imprint, and what follows an end -/

/-- No run can start while an imprint is in flight (R81). -/
theorem State.startable_inFlight {s : State} (h : s.runs.inFlight ≠ none) : s.startable = none := by
  unfold State.startable
  split
  · rfl
  · exact if_neg fun hs => h hs.2.1

section
variable {m : State} {r : Run} (hn : (m.runs.queue.map (·.id)).Nodup) (hr : r ∈ m.runs.queue)
include hn hr

theorem State.authorise_posts (h : MayAuthorise m r) : m.authorise r.id = m.authorisePost r := by
  unfold State.authorise
  rw [State.findRun_eq hn hr]
  simp only [State.authoriseFails_none.mpr h]

theorem State.authorise_ends (h : ¬ MayAuthorise m r) (hm : m.acct.mode ≠ .unconfigured) :
    m.authorise r.id =
      (if m.overUsedMax r then m.enterExhausted else m).runEnd r.id (authoriseEnd m r) := by
  unfold State.authorise
  rw [State.findRun_eq hn hr]
  simp only [State.authoriseFails_some h hm]

/-- The next imprint of a run (R83, R84, R18), where `loop` is what is done with the state after it: it
leaves a state in which no run can start, and what it makes of a state with fewer starts to come is
`next`. -/
theorem State.authorise_imprintNext (hs : r.slot ≤ 3) {next : State → State → Prop}
    {loop : State → State} (hid : ∀ u : State, u.startable = none → loop u = u)
    (hnext : ∀ u : State, (u.runs.queue.map (·.id)).Nodup → u.startBound < m.startBound →
      next u (loop u).driveOutputs) :
    ImprintNext next m (loop (m.authorise r.id)).driveOutputs r := by
  by_cases hmay : MayAuthorise m r
  · have hbusy : (m.authorisePost r).startable = none := by
      refine State.startable_inFlight ?_
      rw [State.authorisePost_eq, (m.imprintBegun r).afterAvail_frame.2.2.2.2.1, m.imprintBegun_runs]
      nofun
    rw [State.authorise_posts hn hr hmay, hid _ hbusy]
    exact State.authorisePost_imprintNext hmay hs
  · refine ⟨fun h => absurd h hmay, fun _ hm => ?_⟩
    have hcomplete := authoriseEnd_ne_complete m r
    rw [State.authorise_ends hn hr hmay hm]
    refine ⟨fun hover => ?_, fun hover => ?_⟩
    · obtain ⟨heq, -⟩ := m.enterExhausted_entered
      have hruns : m.enterExhausted.runs = m.runs := by rw [heq]
      have hbound : m.enterExhausted.startBound = m.startBound := by rw [heq]; rfl
      rw [authoriseEnd_overUsed hover, if_pos (State.overUsedMax_iff.mpr hover)] at *
      rw [← hruns] at hn hr
      refine ⟨_, _, m.enterExhausted_entered, State.runEnd_runEnds hn hr hs _,
        hnext _ (State.runEnd_nodup hn hr _) ?_⟩
      exact hbound ▸ State.runEnd_startBound hn hr nofun
    · rw [if_neg (mt State.overUsedMax_iff.mp hover)]
      exact ⟨_, State.runEnd_runEnds hn hr hs _,
        hnext _ (State.runEnd_nodup hn hr _) (State.runEnd_startBound hn hr hcomplete)⟩

end

end Sys2Proof.Machine
end

section
/-! SUPPORT. The start of the head run (R81, R82), and the loop of starts (R94 step 7), as `Starts` says
it. -/

namespace Sys2Proof.Machine

/-! ## The value at the start -/

/-- A slot told of a start keeps the tables and the registers the value is computed from. -/
theorem State.valueOf_slotRunStarted (m : State) (r : Run) :
    (m.slotRunStarted r).valueOf r = startValue m r := by
  unfold State.valueOf startValue
  cases r.direct with
  | some v => rfl
  | none =>
    rw [show (m.slotRunStarted r).activeRate r.tariff = m.activeRate r.tariff from rfl]
    cases m.activeRate r.tariff <;> rfl

/-- A run has no value for a reason other than COMPLETE (R70, R71). -/
theorem startValue_error {m : State} {r : Run} {c : EndReason} (h : startValue m r = .error c) :
    c ≠ .complete := by
  rintro rfl
  unfold startValue RateEntry.value RateEntry.steps at h
  grind

/-- The all-or-none check at the start (R74). -/
theorem State.shortFor_slotRunStarted {m : State} {r : Run} (hs : r.slot < 4) (v : Nat) :
    (m.slotRunStarted r).shortFor r v = true ↔ StartsShort m r v := by
  have hhead : ((m.slotRunStarted r).slot r.slot).headroom = (m.slot r.slot).headroom := by
    unfold State.slotRunStarted
    rw [State.slot_modSlot, if_pos ⟨rfl, hs⟩]
    split
    · next h => simp [Slot.headroom, h.2]
    · rfl
  have hacct : (m.slotRunStarted r).acct = m.acct := rfl
  unfold State.shortFor StartsShort
  rw [hhead, hacct]
  cases r.count with
  | none => simp
  | some c => simp

/-! ## A run that ends with its record changed -/

/-- The queue without a run is the same when the record of that run had been changed. -/
theorem State.modRun_filter (s : State) (id : Nat) {f : Run → Run} (hf : ∀ q, (f q).id = q.id) :
    ((s.modRun id f).runs.queue.filter fun q => q.id != id) =
      s.runs.queue.filter fun q => q.id != id := by
  have hid (q : Run) : (if q.id = id then f q else q).id = q.id := by
    split
    · exact hf q
    · rfl
  simp only [State.modRun, State.modRuns, List.filter_map, Function.comp_def, hid]
  refine (List.map_congr_left fun q hq => if_neg ?_).trans (List.map_id _)
  simpa using (List.mem_filter.mp hq).2

/-- The ids of the queue when the record of a run is changed. -/
theorem State.modRun_ids (s : State) (id : Nat) {f : Run → Run} (hf : ∀ q, (f q).id = q.id) :
    (s.modRun id f).runs.queue.map (·.id) = s.runs.queue.map (·.id) := by
  simp only [State.modRun, State.modRuns, List.map_map]
  refine List.map_congr_left fun q _ => ?_
  dsimp only [Function.comp_apply]
  split
  · exact hf q
  · rfl

theorem State.modRun_startBound (s : State) (id : Nat) (f : Run → Run) :
    (s.modRun id f).startBound = s.startBound := by
  exact congrArg (· + if s.job.walker.state = .waiting then 1 else 0) (List.length_map _)

theorem State.modRun_mem {s : State} {r : Run} (h : r ∈ s.runs.queue) (f : Run → Run) :
    f r ∈ (s.modRun r.id f).runs.queue :=
  List.mem_map.mpr ⟨r, h, if_pos rfl⟩

section
variable {s : State} (hn : (s.runs.queue.map (·.id)).Nodup) {r : Run} (hr : r ∈ s.runs.queue)
include hn hr

/-- A run ends as any other with its record changed before (R94). -/
theorem State.modRun_runEnd {f : Run → Run} (hf : ∀ q, (f q).id = q.id) (c : EndReason) :
    (s.modRun r.id f).runEnd r.id c = ((s.runGone (f r) c).tellWalker (f r) c).walkerPlaceFree := by
  have hgone : (s.modRun r.id f).runGone (f r) c = s.runGone (f r) c := by
    unfold State.runGone State.runDropped
    simp only [State.modRuns, hf, State.modRun_filter s r.id hf]
    rfl
  have h := State.runEnd_eq (s := s.modRun r.id f) (by rwa [State.modRun_ids s r.id hf])
    (State.modRun_mem hr f) c
  rwa [hf, hgone] at h

/-! ## The start -/

/-- The start of the head run (R82), where `loop` is what is done with the state after it, as in
`State.authorise_imprintNext`. -/
theorem State.runStart_headStarts (hhead : r ∈ s.runs.queue.head?) (hs : r.slot ≤ 3)
    {next : State → State → Prop} {loop : State → State}
    (hid : ∀ u : State, u.startable = none → loop u = u)
    (hnext : ∀ u : State, (u.runs.queue.map (·.id)).Nodup → u.startBound < s.startBound →
      next u (loop u).driveOutputs) :
    HeadStarts next s (loop (s.runStart r)).driveOutputs r := by
  set b := s.slotRunStarted r with hb
  have hbn : (b.runs.queue.map (·.id)).Nodup := hn
  have hbr : r ∈ b.runs.queue := hr
  have hbound : b.startBound = s.startBound := rfl
  have hvalue : b.valueOf r = startValue s r := State.valueOf_slotRunStarted s r
  have hstart : s.runStart r = match startValue s r with
      | .error reason => b.runEnd r.id reason
      | .ok v =>
        if b.shortFor r v then (b.modRun r.id fun q => { q with latched := v }).runEnd r.id .shortCredit
        else (b.modRun r.id fun q => { q with latched := v, state := .printing }).authorise r.id := by
    rw [← hvalue]
    rfl
  rw [hstart]
  unfold HeadStarts
  cases hv : startValue s r with
  | error reason =>
    exact ⟨_, State.runEnd_runEnds hbn hbr hs reason, hnext _ (State.runEnd_nodup hbn hbr _)
      (State.runEnd_startBound hbn hbr (startValue_error hv))⟩
  | ok v =>
    dsimp only
    refine ⟨fun hshort => ?_, fun hshort => ?_⟩
    · rw [if_pos ((State.shortFor_slotRunStarted (by omega) v).mpr hshort)]
      set f : Run → Run := fun q => { q with latched := v }
      have hmem := State.modRun_mem hbr f
      have hmn := (State.modRun_ids b r.id (f := f) fun _ => rfl) ▸ hbn
      have hends := State.modRun_runEnd hbn hbr (f := f) (fun _ => rfl) .shortCredit
      refine ⟨(b.modRun r.id f).runEnd r.id .shortCredit,
        ⟨b.runGone (f r) .shortCredit, State.runGone_onlyRunLeft b (r := f r) (Nat.lt_succ_of_le hs) _,
          hends ▸ State.walkerTold _ _ _⟩,
        hnext _ (State.runEnd_nodup hmn hmem _) ?_⟩
      exact (State.runEnd_startBound hmn hmem (c := .shortCredit) nofun).trans_eq
        (State.modRun_startBound _ _ _)
    · rw [if_neg (mt (State.shortFor_slotRunStarted (by omega) v).mp hshort)]
      set f : Run → Run := fun q => { q with latched := v, state := .printing }
      have hmem := State.modRun_mem hbr f
      have hmn := (State.modRun_ids b r.id (f := f) fun _ => rfl) ▸ hbn
      have hnext' := State.authorise_imprintNext hmn hmem hs hid fun u hu hlt =>
        hnext u hu (hlt.trans_eq (State.modRun_startBound _ _ _))
      have hhead' := State.modRun_head hbn hhead f
      rw [hhead'] at hnext' ⊢
      exact hnext'

end

/-! ## The loop of starts -/

/-- A queued head run starts under the conditions of R81. -/
theorem State.startable_head {s : State} {r : Run} (hr : r ∈ s.runs.queue.head?) :
    s.startable = if r.state = .queued ∧ s.runs.inFlight = none ∧
      (s.acct.mode = .active ∨ s.acct.mode = .contactDue ∨ s.acct.mode = .exhausted) then some r
    else none := by
  unfold State.startable
  split
  · next hq => rw [hq] at hr; cases hr
  · next q rest hq =>
    rw [hq] at hr
    rw [Option.some.inj hr]

/-- No run can start, and none is startable. -/
theorem noStart_iff {s : State} : NoStart s ↔ s.startable = none := by
  unfold NoStart
  cases hq : s.runs.queue with
  | nil => simp [State.startable, hq]
  | cons r rest =>
    rw [State.startable_head (r := r) (by rw [hq]; rfl)]
    have hmodes : ¬ (s.acct.mode = .active ∨ s.acct.mode = .contactDue ∨ s.acct.mode = .exhausted) ↔
        s.acct.mode = .contactLocked ∨ s.acct.mode = .unconfigured := by
      cases s.acct.mode <;> simp
    simp only [List.head?_cons, Option.mem_some, forall_eq', ite_eq_right_iff, reduceCtorEq, imp_false,
      not_and, hmodes]
    cases s.runs.inFlight <;> simp

theorem State.startLoop_idle {s : State} (h : s.startable = none) (l : List Nat) (n : Nat) :
    State.startLoop l n s = s := by
  cases n with
  | zero => rfl
  | succ n => rw [State.startLoop, h]

theorem State.considerStart_idle {s : State} (h : s.startable = none) : s.considerStart = s :=
  State.startLoop_idle h _ _

/-- The loop of starts makes of a state what R81 and step 7 of R94 say, when its bound covers the starts
that may come. -/
theorem State.startLoop_starts (k : Nat) : ∀ {m : State} {n : Nat}, (m.runs.queue.map (·.id)).Nodup →
    m.startBound ≤ n → Starts k m (State.startLoop [] n m).driveOutputs := by
  induction k with
  | zero => exact fun _ _ => trivial
  | succ k ih =>
    intro m n hn hbound
    refine ⟨fun hno => ?_, fun r hr hqueued hs hclear hmode => ?_⟩
    · rw [State.startLoop_idle (noStart_iff.mp hno)]
      rfl
    · have hstart : m.startable = some r :=
        (State.startable_head hr).trans (if_pos ⟨hqueued, hclear, hmode⟩)
      have hmem : r ∈ m.runs.queue := List.mem_of_mem_head? hr
      have hpos : 0 < m.startBound :=
        (List.length_pos_of_mem hmem).trans_le (Nat.le_add_right _ _)
      obtain ⟨n, rfl⟩ : ∃ j, n = j + 1 := ⟨n - 1, by omega⟩
      rw [State.startLoop, hstart]
      dsimp only
      rw [if_neg (List.not_mem_nil)]
      exact State.runStart_headStarts hn hmem hr hs (loop := State.startLoop [] n)
        (fun u hu => State.startLoop_idle hu _ _) fun u hu hlt => ih hu (by omega)

/-- The head run considered for start (R81, R94 step 7). -/
theorem State.considerStart_starts {m : State} (hn : (m.runs.queue.map (·.id)).Nodup) (k : Nat) :
    Starts k m m.considerStart.driveOutputs := by
  refine State.startLoop_starts k hn ?_
  unfold State.startBound
  split <;> omega

end Sys2Proof.Machine
end

section
/-! SUPPORT. What a run does when it starts or ends does not depend on the response buffer: `Starts` and what it
is made of hold as well once the same answer is laid into the port of both states. -/

namespace Sys2Proof.Machine

/-- A response laid into the port, no snapshot kept (R182). -/
def State.replied (s : State) (a : Response) : State :=
  s.modPort fun q => { q with response := a, snapshot := none }

section
variable {m t : State} {r : Run} {c : EndReason} (a : Response)

theorem NeighboursActed.replied (h : NeighboursActed m t) :
    NeighboursActed (m.replied a) (t.replied a) := h.of_port rfl rfl rfl rfl rfl

theorem LineAppended.replied {w : Walker} {l : LineCopy} (h : LineAppended m t w l) :
    LineAppended (m.replied a) (t.replied a) w l := h

theorem LineFetched.replied {w : Walker} {n : Nat} {x y : Bool} (h : LineFetched m t w n x y) :
    LineFetched (m.replied a) (t.replied a) w n x y := h

theorem WalkerTold.replied (h : WalkerTold m t r c) : WalkerTold (m.replied a) (t.replied a) r c := by
  obtain ⟨heq, hraised, hother, hwaits, hhalted, hown⟩ := h
  exact ⟨congrArg (·.replied a) heq, hraised.answered a,
    fun hrun hstate => congrArg (·.replied a) (hother hrun hstate), hwaits,
    fun hrun hhalt => congrArg (·.replied a) (hhalted hrun hhalt), hown⟩

/-- That a run has left reads nothing of the walker and of the response buffer. -/
theorem RunLeft.modWalker_replied (h : RunLeft m t r c) (f : Walker → Walker) :
    RunLeft ((m.modWalker f).replied a) ((t.modWalker f).replied a) r c := by
  obtain ⟨hqueue, hfin, hcount, hended, hslots, hslot⟩ := h
  refine ⟨hqueue, hfin, hcount, hended, hslots, ?_⟩
  dsimp only at hslot ⊢
  split at hslot
  · next hclose =>
    obtain ⟨hidle, hgrants, hshort⟩ := hslot
    exact Eq.mpr (if_pos hclose) ⟨hidle, hgrants.trans
      (State.setGrant_grants_congr (s := m) (t := (m.modWalker f).replied a) rfl _ _), hshort⟩
  · next hopen => exact Eq.mpr (if_neg hopen) hslot

theorem OnlyRunLeft.modWalker_replied (h : OnlyRunLeft m t r c) (f : Walker → Walker) :
    OnlyRunLeft ((m.modWalker f).replied a) ((t.modWalker f).replied a) r c := by
  obtain ⟨heq, hleft, hraised⟩ := h
  exact ⟨congrArg (fun w : State => (w.modWalker f).replied a) heq,
    hleft.modWalker_replied a f, hraised.answered a⟩

theorem RunEnds.replied (h : RunEnds m t r c) : RunEnds (m.replied a) (t.replied a) r c := by
  obtain ⟨v, hleft, htold⟩ := h
  exact ⟨v.replied a, hleft.modWalker_replied a id, htold.replied a⟩

theorem ExhaustedEntered.replied (h : ExhaustedEntered m t) :
    ExhaustedEntered (m.replied a) (t.replied a) := by
  obtain ⟨heq, hacted, halarm, hwant, hraised⟩ := h
  exact ⟨congrArg (·.replied a) heq, hacted.replied a, halarm, hwant, hraised.answered a⟩

section
variable {next next' : State → State → Prop}
  (hnext : ∀ {u v : State}, next u v → next' (u.replied a) (v.replied a))
include hnext

theorem ImprintNext.replied (h : ImprintNext next m t r) :
    ImprintNext next' (m.replied a) (t.replied a) r := by
  obtain ⟨hmay, hends⟩ := h
  refine ⟨fun hm => ?_, fun hm hmode => ⟨fun hover => ?_, fun hover => ?_⟩⟩
  · obtain ⟨heq, hauth, hruns, hacted, hraised, hlow⟩ := hmay hm
    exact ⟨congrArg (·.replied a) heq, hauth, hruns, hacted.replied a, hraised.answered a, hlow⟩
  · obtain ⟨e, u, he, hu, hn⟩ := (hends hm hmode).1 hover
    exact ⟨_, _, he.replied a, hu.replied a, hnext hn⟩
  · obtain ⟨u, hu, hn⟩ := (hends hm hmode).2 hover
    exact ⟨_, hu.replied a, hnext hn⟩

theorem HeadStarts.replied (h : HeadStarts next m t r) :
    HeadStarts next' (m.replied a) (t.replied a) r := by
  unfold HeadStarts at *
  rw [show startValue (m.replied a) r = startValue m r from rfl]
  generalize startValue m r = value at h ⊢
  cases value with
  | error reason =>
    obtain ⟨u, hu, hn⟩ := h
    exact ⟨_, hu.replied a, hnext hn⟩
  | ok v =>
    obtain ⟨hshort, hprint⟩ := h
    refine ⟨fun hs => ?_, fun hs => (hprint hs).replied a hnext⟩
    obtain ⟨u, hu, hn⟩ := hshort hs
    exact ⟨_, hu.replied a, hnext hn⟩

end

/-- The answer to the request that brought the start (R182) makes no difference to it. -/
theorem Starts.replied (n : Nat) : ∀ {m t : State}, Starts n m t →
    Starts n (m.replied a) (t.replied a) := by
  induction n with
  | zero => exact fun _ => trivial
  | succ n ih =>
    rintro m t ⟨hno, hhead⟩
    refine ⟨fun h => congrArg (·.replied a) (hno h), fun r hr hqueued hs hclear hmode => ?_⟩
    exact (hhead r hr hqueued hs hclear hmode).replied a ih

end

end Sys2Proof.Machine
end

section
/-! SUPPORT. START JOB, RESUME JOB and HALT JOB (R104 to R110), settled. -/

namespace Sys2Proof.Machine

/-- What a command leaves that has the head run considered for start, once answered (R81, R182). -/
theorem State.considerStart_starts_replied {u : State} (hn : (u.runs.queue.map (·.id)).Nodup)
    (a : Response) (n : Nat) :
    Starts n (u.replied a) (u.considerStart.replied a).driveOutputs :=
  (State.considerStart_starts hn n).replied a n

/-! ## The bytes of START JOB and RESUME JOB -/

@[simp] theorem field_pair (a b : Byte) (rest : List Byte) :
    field (a :: b :: rest) 0 2 = a.toNat * 256 + b.toNat := by
  simp [field, beNat]

/-- A bit of a byte, read off its number. -/
theorem getLsbD_eq_decide (b : Byte) (k : Nat) : b.getLsbD k = decide (b.toNat / 2 ^ k % 2 = 1) := by
  rw [BitVec.getLsbD, Nat.testBit_eq_decide_div_mod_eq]

/-- The highest bit of a byte is set from 128 on. -/
theorem getLsbD_seven (b : Byte) : b.getLsbD 7 = decide (128 ≤ b.toNat) := by
  rw [getLsbD_eq_decide, decide_eq_decide]
  omega

theorem Walker.startBytes_eq (w : Walker) :
    w.startBytes = beBytes 1 w.state.code ++ beBytes 1 (w.run.getD 0) ++
      (if w.state = .faulted then beBytes 1 w.stopReason.code ++ beBytes 2 w.stopAddress
      else beBytes 1 0 ++ [255, 255]) := by
  unfold Walker.startBytes
  cases w.run <;> rfl

/-! ## START JOB -/

theorem State.portCheck_startJob {s : State} {a1 a2 flags : Byte} (h : s.configured = true) :
    s.portCheck .startJob [a1, a2, flags] = none :=
  State.portCheck_pass ⟨Nat.le_refl 3, Nat.le_refl 3⟩ h nofun

/-- START JOB carried out: the walker made new fetches its first line (R104). -/
theorem startJobBody_ok {s : State} {a1 a2 flags : Byte} (ha : a1.toNat * 256 + a2.toNat ≤ 4095)
    (hf : flags.toNat % 64 = 0)
    (hw : s.job.walker.state = .idle ∨ s.job.walker.state = .done ∨ s.job.walker.state = .faulted) :
    startJobBody [a1, a2, flags] s =
      let u := s.startJob (a1.toNat * 256 + a2.toNat) (decide (flags.toNat / 64 % 2 = 1))
        (decide (128 ≤ flags.toNat))
      (u.considerStart, ⟨.ok, u.job.walker.startBytes⟩) := by
  unfold startJobBody
  rw [← getLsbD_seven, show decide (flags.toNat / 64 % 2 = 1) = flags.getLsbD 6 from
    (getLsbD_eq_decide flags 6).symm, field_pair, show flagsByte [a1, a2, flags] 2 = flags from rfl,
    if_neg (by omega)]
  rcases hw with hw | hw | hw <;> rw [hw]

theorem startJobBody_busy {s : State} {a1 a2 flags : Byte} (ha : a1.toNat * 256 + a2.toNat ≤ 4095)
    (hf : flags.toNat % 64 = 0)
    (hw : s.job.walker.state = .running ∨ s.job.walker.state = .waiting ∨ s.job.walker.state = .held) :
    startJobBody [a1, a2, flags] s = (s, refusal .busy) := by
  unfold startJobBody
  rw [field_pair, show flagsByte [a1, a2, flags] 2 = flags from rfl, if_neg (by omega)]
  rcases hw with hw | hw | hw <;> rw [hw]

theorem startJobBody_bad {s : State} {a1 a2 flags : Byte}
    (h : 4095 < a1.toNat * 256 + a2.toNat ∨ flags.toNat % 64 ≠ 0) :
    startJobBody [a1, a2, flags] s = (s, refusal .badArgument) := by
  unfold startJobBody
  rw [field_pair]
  exact if_pos h

/-- Settles O35: the walker made new fetches its line and appends its run (`State.walkerFetch_lineFetched`),
and the head run is considered for start (`State.considerStart_starts`). -/
theorem startJobFetchesTheFirstLine : Obligations.StartJobFetchesTheFirstLine := by
  unfold Obligations.StartJobFetchesTheFirstLine
  intro s a1 a2 flags hc a w
  have hcheck : s.portCheck .startJob [a1, a2, flags] = none := State.portCheck_startJob hc
  have hexec : exec (.startJob [a1, a2, flags]) s =
    s.runCommand .startJob [a1, a2, flags] (startJobBody [a1, a2, flags]) := rfl
  rw [hexec]
  by_cases hbad : 4095 < a ∨ flags.toNat % 64 ≠ 0
  · obtain ⟨t, ht, hrefused⟩ := s.runCommand_bodyRefused _ hcheck (startJobBody_bad hbad) nofun
    exact ⟨t, ht, fun _ => hrefused, fun ha hf => absurd hbad (by omega)⟩
  obtain ⟨ha, hf⟩ : a ≤ 4095 ∧ flags.toNat % 64 = 0 := by omega
  by_cases hbusy : w.state = .running ∨ w.state = .waiting ∨ w.state = .held
  · obtain ⟨t, ht, hrefused⟩ := s.runCommand_bodyRefused _ hcheck (startJobBody_busy ha hf hbusy) nofun
    exact ⟨t, ht, fun h => absurd h hbad, fun _ _ => ⟨fun _ => hrefused, fun hidle => by grind⟩⟩
  have hidle : w.state = .idle ∨ w.state = .done ∨ w.state = .faulted := by
    cases hw : w.state <;> simp [hw] at hbusy ⊢
  refine ⟨_, s.runCommand_ok _ hcheck (startJobBody_ok ha hf hidle), fun h => absurd h hbad,
    fun _ _ => ⟨fun h => absurd h hbusy, fun _ ⟨_, hn, _⟩ => ?_⟩⟩
  set x := decide (flags.toNat / 64 % 2 = 1)
  set y := decide (128 ≤ flags.toNat)
  set u := s.shiftOut.startJob a x y
  have hacted : WalkerActed s.shiftOut u :=
    ((WalkerActed.refl _).modWalker Walker.fresh).walkerFetch a x y
  set a' : Response := ⟨.ok, u.job.walker.startBytes⟩
  refine ⟨u.replied a', congrArg (·.replied a') hacted.eq, ?_, ?_,
    State.considerStart_starts_replied (hacted.nodup hn) _⟩
  · exact State.walkerFetch_lineFetched (s.shiftOut.modWalker Walker.fresh) a x y
  · exact Walker.startBytes_eq _ ▸ hacted.within.answered _

/-! ## RESUME JOB -/

/-- A HELD walker that goes on: its next line fetched, or its copy appended (R109). -/
theorem WalkerActed.resumeJob (s : State) : WalkerActed s s.resumeJob := by
  have hcleared := (WalkerActed.refl s).modWalker fun w => { w with heldReason := .none }
  unfold State.resumeJob
  dsimp only
  split
  · exact hcleared.walkerAppend
  · exact hcleared.walkerFetch _ _ _
  · exact hcleared.walkerFetch _ _ _

theorem State.resumeJob_linkHold {s : State} (h : s.job.walker.heldReason = .linkHold) :
    LineFetched s s.resumeJob { s.job.walker with heldReason := .none } s.job.walker.nextAddress
      s.job.walker.latchedAllOrNone s.job.walker.latchedAutoClose := by
  unfold State.resumeJob
  rw [h]
  exact State.walkerFetch_lineFetched (s.modWalker fun w => { w with heldReason := .none }) _ _ _

theorem State.resumeJob_noCredit {s : State} (h : s.job.walker.heldReason = .noCredit) {c : LineCopy}
    (hc : s.job.walker.copy = some c) :
    LineAppended s s.resumeJob { s.job.walker with heldReason := .none } c := by
  unfold State.resumeJob
  rw [h]
  exact State.walkerAppend_lineAppended (s := s.modWalker fun w => { w with heldReason := .none }) hc

theorem resumeJobBody_ok {s : State} (h : s.job.walker.state = .held) :
    resumeJobBody s = (s.resumeJob.considerStart,
      ⟨.ok, s.resumeJob.considerStart.job.walker.resumeBytes s.resumeJob.job.walker.run⟩) :=
  if_pos h

/-! ## HALT JOB -/

section
variable {j : JobUnit} (hrun : j.walker.run = none) (hstate : j.walker.state ≠ .waiting)
include hrun hstate

/-- A walker without a run that does not wait stays as it is when a run ends. -/
theorem State.runEnd_job {s : State} (h : s.job = j) (id : Nat) (c : EndReason) :
    (s.runEnd id c).job = j := by
  unfold State.runEnd
  split
  · exact h
  · next r _ =>
    have hgone : (((s.modRuns fun u => ({ u with queue := u.queue.filter fun q => q.id != id } :
        RunUnit).addFinished (r.record c)).raise .runEnded).slotRunEnded r.slot id).job = j := by
      simpa using h
    dsimp only
    rw [State.tellWalker_other, State.walkerPlaceFree_idle, hgone]
    · rwa [hgone]
    · rw [hgone, hrun]
      nofun

/-- Nor does it move when the next imprint is authorised. -/
theorem State.authorise_job {s : State} (h : s.job = j) (id : Nat) : (s.authorise id).job = j := by
  unfold State.authorise
  split
  · exact h
  · next r _ =>
    split
    · simpa using h
    · refine State.runEnd_job hrun hstate ?_ _ _
      split
      · simpa using h
      · exact h

/-- Nor when a run starts. -/
theorem State.runStart_job {s : State} (h : s.job = j) (r : Run) : (s.runStart r).job = j := by
  unfold State.runStart
  dsimp only
  split
  · exact State.runEnd_job hrun hstate (by exact h) _ _
  · split
    · exact State.runEnd_job hrun hstate (by exact h) _ _
    · exact State.authorise_job hrun hstate (by exact h) _

/-- Nor when the head run is considered for start. -/
theorem State.startLoop_job (l : List Nat) (n : Nat) : ∀ {s : State}, s.job = j →
    (State.startLoop l n s).job = j := by
  induction n with
  | zero => exact id
  | succ n ih =>
    intro s h
    unfold State.startLoop
    split
    · exact h
    · split
      · exact h
      · exact ih (State.runStart_job hrun hstate h _)

end

/-- The walker told to halt while its run goes on (R110). -/
def State.haltAsked (s : State) : State := s.modWalker fun w => { w with haltPending := true }

theorem State.haltJob_rests {s : State}
    (h : s.job.walker.state = .waiting ∨ s.job.walker.state = .held ∨ s.job.walker.state = .done ∨
      s.job.walker.state = .faulted) : s.haltJob = s.walkerIdle := by
  unfold State.haltJob
  rcases h with h | h | h | h <;> rw [h]

theorem State.haltJob_asked {s : State} (h : s.job.walker.state = .running)
    (hp : s.job.walker.haltPending = true) : s.haltJob = s := by
  unfold State.haltJob
  rw [h, hp]
  rfl

/-- A halt while the walker's run is in the queue is an end request for it (R92, R110). -/
theorem State.haltJob_running {s : State} (h : s.job.walker.state = .running)
    (hp : s.job.walker.haltPending = false) {id : Nat} (hrun : s.job.walker.run = some id) :
    s.haltJob = (s.haltAsked.endRequest id .halted).considerStart := by
  unfold State.haltJob
  rw [h, hp, hrun]
  rfl

section
variable {s : State} (hn : (s.runs.queue.map (·.id)).Nodup) {r : Run} (hr : r ∈ s.runs.queue)
  (c : EndReason)
include hn hr

/-- An end request for a run that stands (R92). -/
theorem State.endRequest_standing (h : r.state = .queued ∨ r.state = .jammed) :
    s.endRequest r.id c = s.runEnd r.id c := by
  unfold State.endRequest
  rw [State.findRun_eq hn hr]
  dsimp only
  rcases h with h | h <;> rw [h]

/-- An end request for a run with an imprint in flight (R92). -/
theorem State.endRequest_printing (h : r.state = .printing) (hf : s.runs.inFlight ≠ none) :
    s.endRequest r.id c =
      s.modRun r.id fun q => { q with state := .stopping, pendingEnd := some c } := by
  unfold State.endRequest
  rw [State.findRun_eq hn hr]
  dsimp only
  rw [h]
  exact if_pos (Option.isSome_iff_ne_none.mpr hf)

theorem State.endRequest_stopping (h : r.state = .stopping) : s.endRequest r.id c = s := by
  unfold State.endRequest
  rw [State.findRun_eq hn hr]
  dsimp only
  rw [h]

end

/-- An imprint is in flight while a run of the queue is under way (R80). -/
theorem QueueLaw.inFlight {s : State} (h : QueueLaw s) {r : Run} (hr : r ∈ s.runs.queue)
    (hw : r.underWay = true) : s.runs.inFlight ≠ none := by
  obtain ⟨-, -, -, hflight⟩ := h
  intro hnone
  rw [hnone] at hflight
  exact absurd ((hflight.2 r hr).symm.trans hw) (by decide)

section
variable {s : State} (h : s.job.walker.state = .running) (hp : s.job.walker.haltPending = false)
  (hq : QueueLaw s) {r : Run} (hrun : s.job.walker.run = some r.id)
include h hp hq hrun

/-- A halt while the walker's run prints (R92, R110). -/
theorem State.haltJob_printing (hr : r ∈ s.runs.queue.head?) (hstate : r.state = .printing) :
    s.haltJob = { s.haltAsked with
      runs := { s.runs with
        queue := { r with state := .stopping, pendingEnd := some .halted } :: s.runs.queue.drop 1 } } := by
  have hmem := List.mem_of_mem_head? hr
  have hflight : s.runs.inFlight ≠ none := hq.inFlight hmem (by simp [Run.underWay, hstate])
  rw [State.haltJob_running h hp hrun,
    State.endRequest_printing (s := s.haltAsked) hq.2.1 hmem _ hstate hflight]
  exact (State.considerStart_idle (State.startable_inFlight (by exact hflight))).trans
    (State.modRun_head (s := s.haltAsked) hq.2.1 hr _)

/-- A halt while the walker's run is stopping (R92, R110). -/
theorem State.haltJob_stopping (hr : r ∈ s.runs.queue) (hstate : r.state = .stopping) :
    s.haltJob = s.haltAsked := by
  have hflight : s.runs.inFlight ≠ none := hq.inFlight hr (by simp [Run.underWay, hstate])
  rw [State.haltJob_running h hp hrun,
    State.endRequest_stopping (s := s.haltAsked) hq.2.1 hr _ hstate]
  exact State.considerStart_idle (s := s.haltAsked) (State.startable_inFlight hflight)

/-- A halt while the walker's run stands: the run ends, and the walker is IDLE (R94, R110). -/
theorem State.haltJob_standing (hr : r ∈ s.runs.queue)
    (hstate : r.state = .queued ∨ r.state = .jammed) :
    s.haltJob = ((s.haltAsked.runGone r .halted).modWalker fun w =>
      { w with run := none, state := .idle, haltPending := false }).considerStart := by
  have hjob : (s.haltAsked.runGone r .halted).job = s.haltAsked.job := State.runGone_job _ _ _
  rw [State.haltJob_running h hp hrun,
    State.endRequest_standing (s := s.haltAsked) hq.2.1 hr _ hstate,
    State.runEnd_eq (s := s.haltAsked) hq.2.1 hr, State.tellWalker_own (by rw [hjob]; exact hrun),
    State.walkerRunEnded_halted (by rw [hjob]; rfl), State.walkerPlaceFree_idle]
  nofun

end

/-- Settles O36: RESUME JOB as START JOB is settled; HALT JOB by the walker's state and its run's. -/
theorem heldAndHaltedWalkersAnswer : Obligations.HeldAndHaltedWalkersAnswer := by
  unfold Obligations.HeldAndHaltedWalkersAnswer
  intro s hc w
  have hresume : s.portCheck .resumeJob [] = none := State.portCheck_pass ⟨le_rfl, le_rfl⟩ hc nofun
  have hhalt : s.portCheck .haltJob [] = none := State.portCheck_pass ⟨le_rfl, le_rfl⟩ hc nofun
  constructor
  · by_cases hheld : w.state = .held
    · refine ⟨_, s.runCommand_ok _ hresume (resumeJobBody_ok hheld), fun h => absurd hheld h,
        fun _ ⟨_, hn, _⟩ => ?_⟩
      set u := s.shiftOut.resumeJob
      set a : Response := ⟨.ok, u.considerStart.job.walker.resumeBytes u.job.walker.run⟩
      have hacted : WalkerActed s.shiftOut u := .resumeJob _
      refine ⟨u.replied a, congrArg (·.replied a) hacted.eq, fun h => ?_, fun h c hcopy => ?_,
        hacted.within.answered a, rfl, State.considerStart_starts_replied (hacted.nodup hn) a⟩
      · exact State.resumeJob_linkHold (s := s.shiftOut) h
      · exact State.resumeJob_noCredit (s := s.shiftOut) h hcopy
    · obtain ⟨t, ht, hrefused⟩ := s.runCommand_bodyRefused (fun v => resumeJobBody v) hresume
        (if_neg hheld) nofun
      exact ⟨t, ht, fun _ => hrefused, fun h => absurd h hheld⟩
  · refine ⟨_, s.runCommand_ok _ hhalt rfl, fun h => ?_, fun h => ?_, fun h hp => ?_,
      fun h hp hq r hr hrun hstate => ?_, fun h hp hq r hr hrun hstate => ?_,
      fun h hp hq r hr hrun hstate hs => ?_⟩
    · have hidle : s.shiftOut.haltJob = s.shiftOut := by
        unfold State.haltJob
        rw [show s.shiftOut.job.walker.state = .idle from h]
      rw [hidle, show s.shiftOut.job.walker.state = .idle from h]
      rfl
    · rw [State.haltJob_rests (s := s.shiftOut) h]
      rfl
    · rw [State.haltJob_asked (s := s.shiftOut) h hp, show s.shiftOut.job.walker.state = .running from h]
      rfl
    · rw [State.haltJob_printing (s := s.shiftOut) h hp hq hrun hr hstate,
        show byte s.shiftOut.haltAsked.job.walker.state.code = beBytes 1 1 from
          congrArg (fun x : WalkerState => byte x.code) h]
      rfl
    · rw [State.haltJob_stopping (s := s.shiftOut) h hp hq hrun (List.mem_of_mem_head? hr) hstate,
        show byte s.shiftOut.haltAsked.job.walker.state.code = beBytes 1 1 from
          congrArg (fun x : WalkerState => byte x.code) h]
      rfl
    · rw [State.haltJob_standing (s := s.shiftOut) h hp hq hrun hr hstate]
      set f : Walker → Walker := fun w => { w with run := none, state := .idle, haltPending := false }
      set v := s.shiftOut.haltAsked.runGone r .halted
      have hidle : (v.modWalker f).considerStart.job = (v.modWalker f).job :=
        State.startLoop_job rfl (show WalkerState.idle ≠ .waiting by decide) _ _ rfl
      rw [hidle]
      have hleft := s.shiftOut.haltAsked.runGone_onlyRunLeft (Nat.lt_succ_of_le hs) .halted
      have hn : ((v.modWalker f).runs.queue.map (·.id)).Nodup := by
        rw [show (v.modWalker f).runs = v.runs from rfl, State.runGone_runs]
        exact hq.2.1.sublist (List.filter_sublist.map _)
      exact ⟨_, hleft.modWalker_replied ⟨.ok, byte 0⟩ f,
        State.considerStart_starts_replied hn ⟨.ok, byte 0⟩⟩

end Sys2Proof.Machine
end

section
/-! SUPPORT. APPLY REFILL (R169 to R178): the outcome of the checks, the one update of an applied record and
what the neighbours do after it, settled. -/

namespace Sys2Proof.Machine

/-! ## The update -/

/-- The day once a record is applied (R172). -/
def State.refillDay (s : State) (r : RefillRecord) : Nat :=
  if s.rates.day < r.bankDay then r.bankDay else s.rates.day

/-- The mode once a record is applied, under settings c (R17, R175). -/
def State.refillMode (s : State) (r : RefillRecord) (c : Settings) : Mode :=
  if s.acct.mode = .exhausted then .exhausted
  else contactOutcome (s.refillDay r) (s.refillDay r) c.contactDays

/-- The state once a record is applied, its alarms left out (R172). -/
def State.refilled (s : State) (r : RefillRecord) (c : Settings) : State :=
  { s with
    acct := { s.acct with
      avail := s.acct.avail + r.amount, control := s.acct.control + r.amount, mode := s.refillMode r c }
    rates :=
      if s.rates.day < r.bankDay ∧ ∃ e ∈ s.rates.effectiveDay, e ≤ r.bankDay then
        ⟨s.refillDay r, s.rates.pending, Vector.replicate 32 none, none⟩
      else { s.rates with day := s.refillDay r }
    refill := { s.refill with lastNumber := r.number, lastContact := s.refillDay r } }

/-- A contact on the day itself leaves the station ACTIVE (R175). -/
theorem contactOutcome_self (d k : Nat) : contactOutcome d d k = .active := by
  unfold contactOutcome
  rw [if_neg (by omega), if_neg (by omega)]

theorem State.refillSwaps_iff (s : State) (r : RefillRecord) :
    s.refillSwaps r = true ↔ s.rates.day < r.bankDay ∧ ∃ e ∈ s.rates.effectiveDay, e ≤ r.bankDay := by
  rw [← RateUnit.swapDue_iff]
  simp [State.refillSwaps]

/-- The one update of an applied record, before the contact evaluation (R172). -/
theorem State.refillUpdate_eq (s : State) (r : RefillRecord) (c : Settings) :
    s.refillUpdate r = { (s.refilled r c).setMode s.acct.mode with
      port := (s.post (.refill r.amount)).port } := by
  obtain ⟨port, hpost⟩ : ∃ port, s.post (.refill r.amount) =
    { s with acct := s.acct.post (.refill r.amount), port := port } := ⟨_, s.post_eq _⟩
  unfold State.refillUpdate State.refilled State.refillDay
  rw [hpost]
  by_cases hday : s.rates.day < r.bankDay
  · simp only [hday, if_true, true_and]
    refine congrArg (fun x : RateUnit => { s with
      acct := s.acct.post (.refill r.amount), rates := x, port := port
      refill := { s.refill with lastNumber := r.number, lastContact := r.bankDay } }) ?_
    exact State.dayAdvance_rates { s with
      acct := s.acct.post (.refill r.amount), port := port
      refill := { s.refill with lastNumber := r.number } } r.bankDay
  · simp only [hday, if_false, false_and]
    rfl

/-- The contact evaluation of an applied record gives the mode of `refilled`. -/
theorem State.refillUpdate_contactMode (s : State) (r : RefillRecord) (c : Settings) :
    (s.refillUpdate r).contactMode c = s.refillMode r c := by
  have hday : (s.refilled r c).rates.day = s.refillDay r := by
    unfold State.refilled
    dsimp only
    split <;> rfl
  rw [State.refillUpdate_eq s r c]
  unfold State.contactMode State.refillMode
  exact congrArg (fun d => if s.acct.mode = .exhausted then Mode.exhausted
    else contactOutcome d (s.refillDay r) c.contactDays) hday

section
variable {s : State} {c : Settings} (h : c ∈ s.port.settings) (r : RefillRecord)
include h

theorem State.refillUpdate_settings : c ∈ (s.refillUpdate r).port.settings := by
  rw [State.refillUpdate_eq s r c]
  simpa using h

/-- The alarms of an applied record, raised one after the other on the update. -/
theorem State.refillApplied_raises :
    s.refillApplied r =
      (((((s.refilled r c).modPort fun _ => (s.post (.refill r.amount)).port).raiseIf
        (decide (s.refillMode r c = .contactDue ∧ s.acct.mode ≠ .contactDue)) .contactDue).raiseIf
        (decide (s.refillMode r c = .contactLocked ∧ s.acct.mode ≠ .contactLocked))
          .contactLocked).raiseIf (s.refillSwaps r) .ratesSwapped).raise .refillDone := by
  have heq := State.refillUpdate_eq s r c
  have hmode : (s.refillUpdate r).acct.mode = s.acct.mode := by rw [heq]; rfl
  unfold State.refillApplied
  rw [State.evalContact_eq (State.refillUpdate_settings h r), State.refillUpdate_contactMode s r c, hmode,
    heq]
  rfl

/-- An applied record moves what `refilled` says, and of the port at most alarms. -/
theorem State.refillApplied_eq :
    s.refillApplied r = { s.refilled r c with port := (s.refillApplied r).port } := by
  rw [State.refillApplied_raises h]
  exact congrArg (fun w : State => w.raise .refillDone) (State.raiseIf_of_port (m := s.refilled r c)
    (State.raiseIf_of_port (State.raiseIf_of_port rfl _ _) _ _) _ _)

theorem State.refillApplied_within :
    RaisedWithin s.port (s.refillApplied r).port
      ([.refillDone, .ratesSwapped, .contactDue, .contactLocked] ++ neighbourAlarms) := by
  rw [State.refillApplied_raises h]
  refine RaisedWithin.trans (s.post_within (.refill r.amount) (by simp [neighbourAlarms])) ?_
  exact (((State.raiseIf_within ((s.refilled r c).modPort _) _ (by simp)).trans
    (State.raiseIf_within _ _ (by simp))).trans (State.raiseIf_within _ _ (by simp))).trans
    (State.raise_within _ (by simp))

end

theorem State.refillApplied_done (s : State) (r : RefillRecord) :
    (s.refillApplied r).alarm .refillDone = true := State.alarm_raise_self _ _

theorem State.refillApplied_swapped {s : State} {r : RefillRecord} (h : s.refillSwaps r = true) :
    (s.refillApplied r).alarm .ratesSwapped = true := by
  refine (State.raise_within (l := [.refillDone]) _ (by simp)).alarm ?_
  rw [State.alarm_raiseIf, h]
  simp

/-! ## The neighbours -/

/-- Nothing follows an applied record without a credit and without a change of mode (R173). -/
theorem State.refillNeighbours_nothing {u : State} {old : Mode} (h : u.acct.mode = old) :
    u.refillNeighbours old 0 = u := by
  unfold State.refillNeighbours
  rw [if_neg (by omega), State.afterMode_same h]

/-- The neighbours act after a credit or a change of mode, no head run being there to start (R173). -/
theorem State.refillNeighbours_acts {u : State} {old : Mode} {amount : Nat}
    (hmove : 0 < amount ∨ u.acct.mode ≠ old) (hstart : old ≠ .contactLocked ∨ u.runs.queue = []) :
    u.refillNeighbours old amount = u.afterAvail := by
  unfold State.refillNeighbours
  split
  · rfl
  · next hstay =>
    have hne : u.acct.mode ≠ old := fun he => hstay ⟨he, hmove.resolve_right fun hn => hn he⟩
    rcases hstart with hold | hempty
    · exact State.afterMode_changed hne hold
    · unfold State.afterMode
      rw [if_neg hne, State.considerStart_idle (by simp [State.startable, hempty]), ite_self]

/-- The head run is considered for start when the mode leaves CONTACT_LOCKED (R178). -/
theorem State.refillNeighbours_unlocks {u : State} (h : u.acct.mode ≠ .contactLocked) (amount : Nat) :
    u.refillNeighbours .contactLocked amount = u.afterAvail.considerStart := by
  unfold State.refillNeighbours State.afterMode
  rw [if_neg fun hs => h hs.1, if_neg h, if_pos rfl]

/-! ## APPLY REFILL -/

/-- The outcome with which a record is refused; none when it is applied (R170). -/
def RefillOutcome.refused : RefillOutcome → Option Nat
  | .applied => none
  | o => some o.code

/-- Checks 2 to 7 of R170 in their order. -/
theorem State.refillCheck_refused {s : State} {c : Settings} (h : c ∈ s.port.settings) (r : RefillRecord)
    (bytes : List Byte) :
    (s.refillCheck r bytes).refused =
      if s.refill.serial ≠ r.serial then some 2
      else if Config.checkCode s.refill.secret bytes ≠ r.check then some 3
      else if r.number ≤ s.refill.lastNumber then some 4
      else if s.refill.lastNumber + 1 < r.number then some 5
      else if 0 < r.amount ∧ s.acct.mode = .exhausted then some 6
      else if c.ceiling - (s.acct.avail + s.acct.held + s.acct.escrow + s.acct.incoming) < r.amount then
        some 7
      else none := by
  have hroom : s.room =
      c.ceiling - (s.acct.avail + s.acct.held + s.acct.escrow + s.acct.incoming) := by
    simp [State.room, State.ceiling, Accounts.ceilingSum, Option.mem_def.mp h]
  unfold State.refillCheck
  rw [hroom]
  simp only [ne_comm (a := r.serial) (b := s.refill.serial), apply_ite RefillOutcome.refused]
  rfl

theorem applyRefillBody_applied {p : List Byte} {s : State}
    (h : (s.refillCheck (refillOfPayload p) (p.take 12)).refused = none) :
    applyRefillBody p s =
      let u := s.refillApplied (refillOfPayload p)
      (u.refillNeighbours s.acct.mode (field p 6 4), ⟨.ok, u.receiptBytes (field p 4 2) .applied⟩) := by
  unfold applyRefillBody
  dsimp only
  generalize s.refillCheck (refillOfPayload p) (p.take 12) = o at h ⊢
  cases o with
  | applied => rfl
  | _ => cases h

theorem applyRefillBody_refused {p : List Byte} {s : State} {n : Nat}
    (h : (s.refillCheck (refillOfPayload p) (p.take 12)).refused = some n) :
    applyRefillBody p s = (s, ⟨.ok,
      beBytes 4 s.refill.serial.toNat ++ beBytes 2 (field p 4 2) ++ beBytes 1 n ++
      beBytes 4 s.acct.avail ++ beBytes 5 s.acct.used ++ beBytes 6 s.acct.control ++
      beBytes 5 s.acct.spoiled ++ beBytes 2 s.rates.day⟩) := by
  unfold applyRefillBody
  dsimp only
  generalize s.refillCheck (refillOfPayload p) (p.take 12) = o at h ⊢
  cases o <;> cases h <;> rfl

theorem exec_applyRefill {p : List Byte} {s : State} (h : s.portCheck .applyRefill p = none) :
    exec (.applyRefill p) s = s.runCommand .applyRefill p (applyRefillBody p) := by
  change execApplyRefill p s = _
  rw [execApplyRefill, h]

theorem NeighboursActed.repliedRight {m t : State} (h : NeighboursActed m t) (a : Response) :
    NeighboursActed m (t.replied a) :=
  (h.replied a).of_units (m' := m.replied a) rfl rfl rfl rfl

/-- Settles O53: the first check that fails, the update of an applied record, and what the neighbours and
the head run do after it. -/
theorem refillIsAppliedOnce : Obligations.RefillIsAppliedOnce := by
  unfold Obligations.RefillIsAppliedOnce
  intro s p hlen c hc number amount bankDay receipt wrongSerial wrongCheck room refused day swaps mode m
  have hpass : s.portCheck .applyRefill p = none :=
    State.portCheck_pass (by simp [hlen, CommandRow.applyRefill])
      (by simp [State.configured, Option.mem_def.mp hc]) nofun
  set r := refillOfPayload p
  have hcheck : (s.shiftOut.refillCheck r (p.take 12)).refused = refused :=
    State.refillCheck_refused (s := s.shiftOut) hc r (p.take 12)
  rw [exec_applyRefill hpass]
  cases hr : refused with
  | some n =>
    obtain ⟨t, ht, hread⟩ := s.runCommand_onlyRead _ hpass (applyRefillBody_refused (hcheck.trans hr))
    refine ⟨t, ht, fun o ho => ?_, nofun, nofun⟩
    rw [← Option.some.inj ho]
    exact hread
  | none =>
    have heq := State.refillApplied_eq (s := s.shiftOut) hc r
    have hwithin := State.refillApplied_within (s := s.shiftOut) hc r
    have hdone := s.shiftOut.refillApplied_done r
    have hswapped := State.refillApplied_swapped (s := s.shiftOut) (r := r)
    have hbody := applyRefillBody_applied (hcheck.trans hr)
    dsimp only at hbody
    generalize s.shiftOut.refillApplied r = u at *
    have hmode : u.acct.mode = mode := by rw [heq]; rfl
    have hreceipt : u.receiptBytes number .applied = receipt m 0 := by rw [heq]; rfl
    have hswaps (hs : swaps) : u.alarm .ratesSwapped = true :=
      hswapped ((State.refillSwaps_iff s.shiftOut r).mpr hs)
    have hdone' := State.afterAvail_keepsAlarm hdone
    have hswaps' (hs : swaps) := State.afterAvail_keepsAlarm (hswaps hs)
    have hset : u.port.settings = s.port.settings :=
      (congrArg PortUnit.settings hwithin.1 :)
    have hafter := u.afterAvail_within (l := neighbourAlarms) (by simp [neighbourAlarms])
      (by simp [neighbourAlarms])
    have hall := hwithin.trans (hafter.mono fun _ => List.mem_append_right _)
    have hacted : NeighboursActed m u.afterAvail :=
      u.afterAvail_neighboursActed.of_port heq hset rfl rfl rfl
    have hframe : u.afterAvail = { m with
        bus := u.afterAvail.bus, share := u.afterAvail.share, port := u.afterAvail.port } :=
      u.afterAvail_eq.trans (congrArg (fun w : State => { w with
        bus := u.afterAvail.bus, share := u.afterAvail.share, port := u.afterAvail.port }) heq)
    rw [hreceipt] at hbody
    set a : Response := ⟨.ok, receipt m 0⟩
    refine ⟨_, s.runCommand_ok _ hpass hbody, nofun, fun _ hstart => ?_, fun _ hlocked hq => ?_⟩
    · by_cases hmove : 0 < amount ∨ mode ≠ s.acct.mode
      · rw [State.refillNeighbours_acts (u := u) (by rwa [hmode]) (by rw [heq]; exact hstart)]
        exact ⟨State.answered_eq hframe _, fun _ => (hacted.repliedRight a).driveOutputs,
          fun h0 hsame => hmove.elim (fun h => absurd h0 h.ne') fun h => absurd hsame h,
          hdone', hswaps', hall.answered a⟩
      · obtain ⟨h0, hsame⟩ : amount = 0 ∧ mode = s.acct.mode := by
          obtain ⟨hle, he⟩ := not_or.mp hmove
          exact ⟨by omega, not_not.mp he⟩
        rw [show field p 6 4 = 0 from h0,
          State.refillNeighbours_nothing (old := s.shiftOut.acct.mode) (hmode.trans hsame)]
        have hbus : u.bus = s.bus := by rw [heq]; rfl
        have hshare : u.share = s.share := by rw [heq]; rfl
        have hframe' : u = { m with bus := u.bus, share := u.share, port := u.port } :=
          heq.trans (by rw [hbus, hshare]; rfl)
        exact ⟨State.answered_eq hframe' _, fun h => absurd h hmove, fun _ _ => ⟨hshare, hbus⟩, hdone,
          hswaps, hwithin.answered a⟩
    · have hactive : mode ≠ .contactLocked := by
        simp [mode, hlocked, contactOutcome_self]
      rw [show s.shiftOut.acct.mode = .contactLocked from hlocked,
        State.refillNeighbours_unlocks (by rwa [hmode])]
      have hn : (u.afterAvail.runs.queue.map (·.id)).Nodup := by
        rw [hframe]
        exact hq.2.1
      exact ⟨u.afterAvail.replied a, congrArg (·.replied a) hframe,
        hacted.repliedRight a, hdone', hswaps',
        hall.answered a, State.considerStart_starts_replied hn a⟩

end Sys2Proof.Machine
end

section
/-! SUPPORT. START RUN (R77 to R79): its checks, and a run appended behind what holds it back, settled. -/

namespace Sys2Proof.Machine

/-! ## The checks -/

/-- The three flags of a START RUN payload. -/
theorem runArgs_flags (p : List Byte) :
    (runArgs p).continuous = decide (field p 9 1 / 32 % 2 = 1) ∧
    (runArgs p).allOrNone = decide (field p 9 1 / 64 % 2 = 1) ∧
    (runArgs p).autoClose = decide (128 ≤ field p 9 1) := by
  rw [← toNat_flagsByte]
  exact ⟨getLsbD_eq_decide _ 5, getLsbD_eq_decide _ 6, getLsbD_seven _⟩

/-- Check 5 of R78 on the fields of a payload. -/
theorem runArgs_ok_iff (p : List Byte) : (runArgs p).ok = true ↔ StartRunOk p := by
  have htariff : (field p 1 1 ≤ 31 ∨ field p 1 1 = 255) ∧
      (field p 1 1 = 255 → 1 ≤ field p 6 3 ∧ field p 6 3 ≤ 999999) ↔
      field p 1 1 ≤ 31 ∨ (field p 1 1 = 255 ∧ 1 ≤ field p 6 3 ∧ field p 6 3 ≤ 999999) := by
    omega
  have hlen : (p.drop 10).length ≤ 8 ↔ p.length ≤ 18 := by
    rw [List.length_drop]
    omega
  have hbytes : ((p.drop 10).map (·.toNat)).all (fun e => decide (1 ≤ e ∧ e ≤ 126)) = true ↔
      ∀ b ∈ p.drop 10, 1 ≤ b.toNat ∧ b.toNat ≤ 126 := by
    simp only [List.all_map, List.all_eq_true, Function.comp_apply, decide_eq_true_iff]
  obtain ⟨hcontinuous, -, hauto⟩ := runArgs_flags p
  unfold RunArgs.ok StartRunOk
  rw [hcontinuous, hauto]
  simp only [Bool.and_eq_true, Bool.or_eq_true, Bool.not_eq_true', Bool.and_eq_false_iff,
    decide_eq_true_iff, decide_eq_false_iff_not, not_and_or]
  simp only [runArgs, toNat_flagsByte, List.length_map, hlen, hbytes, htariff, and_assoc]

/-- The run a START RUN payload asks for. -/
theorem runArgs_run (p : List Byte) : (runArgs p).run = startRunOf p 0 := by
  obtain ⟨hcontinuous, hall, hauto⟩ := runArgs_flags p
  unfold RunArgs.run startRunOf
  rw [hcontinuous, hall, hauto]
  simp only [decide_eq_true_iff]
  rfl

section
variable {s : State} {p : List Byte}

theorem State.startRunCheck_range (h : 3 < field p 0 1) :
    s.startRunCheck (runArgs p) = some .badArgument := if_pos h

/-- The checks of R78 on a slot that exists. -/
theorem State.startRunCheck_slot (h : field p 0 1 ≤ 3) :
    s.startRunCheck (runArgs p) =
      match (s.slot (field p 0 1)).state with
      | .idle => some .slotIdle
      | .closing => some .slotClosing
      | .opened =>
        if (s.slot (field p 0 1)).grant = 0 then some .nullGrant
        else if (runArgs p).ok = false then some .badArgument
        else if 8 ≤ s.runs.queue.length then some .queueFull
        else none := by
  unfold State.startRunCheck
  simp only [Bool.not_eq_true']
  exact if_neg (Nat.not_lt.mpr h)

theorem State.startRunCheck_ne_ok (a : RunArgs) : s.startRunCheck a ≠ some .ok := by
  unfold State.startRunCheck
  repeat' split
  all_goals nofun

end

theorem startRunBody_refused {p : List Byte} {s : State} {st : Status}
    (h : s.startRunCheck (runArgs p) = some st) : startRunBody p s = (s, refusal st) := by
  unfold startRunBody
  rw [h]

theorem startRunBody_ok {p : List Byte} {s : State} (h : s.startRunCheck (runArgs p) = none) :
    startRunBody p s =
      ((s.appendRun (startRunOf p 0)).considerStart, ⟨.ok, beBytes 1 s.newRunId⟩) := by
  unfold startRunBody
  rw [h, ← runArgs_run]
  rfl

/-! ## A run that waits -/

/-- What holds back a run appended now holds back the head of the queue it joins (R79, R81). -/
theorem MustWait.startable {s : State} (h : MustWait s) (r : Run) :
    (s.appendRun r).startable = none := by
  refine noStart_iff.mp fun q hq hqueued => ?_
  rcases h with hflight | ⟨head, hhead, hstate⟩ | hlocked
  · exact .inl hflight
  · have hold : (s.appendRun r).runs.queue.head? = s.runs.queue.head? := by
      unfold State.appendRun State.modRuns
      rw [List.head?_append, Option.mem_def.mp hhead]
      rfl
    rw [hold, Option.mem_def.mp hhead] at hq
    exact absurd (Option.some.inj hq ▸ hqueued) hstate
  · exact .inr (.inl hlocked)

/-- Settles O27: the checks of R78 in their order, and a run that has to wait appended. -/
theorem startRunIsCheckedAndAppended : Obligations.StartRunIsCheckedAndAppended := by
  unfold Obligations.StartRunIsCheckedAndAppended
  intro s p hc hmin hmax slot tariff flags continuous ok
  have hpass : s.portCheck .startRun p = none := State.portCheck_pass ⟨hmin, hmax⟩ hc nofun
  obtain ⟨t, ht, hrefused, happended⟩ := s.runCommand_checked (body := startRunBody p)
    (check := s.shiftOut.startRunCheck (runArgs p)) hpass (State.startRunCheck_ne_ok _)
    (fun _ => startRunBody_refused) startRunBody_ok
  refine ⟨t, ht, fun h => hrefused _ (State.startRunCheck_range h), fun hslot => ?_⟩
  have hcheck := State.startRunCheck_slot (s := s.shiftOut) hslot
  have hidle : (s.shiftOut.slot (field p 0 1)).state = (s.slot slot).state := rfl
  have hok : (runArgs p).ok = true ↔ ok := runArgs_ok_iff p
  refine ⟨fun h => hrefused _ ?_, fun h => hrefused _ ?_, fun h => ⟨fun hg => hrefused _ ?_, fun hg =>
    ⟨fun hbad => hrefused _ ?_, fun hok' hfull => hrefused _ ?_, fun hok' hroom hwait => ?_⟩⟩⟩
  · rw [hcheck, hidle, h]
  · rw [hcheck, hidle, h]
  · rw [hcheck, hidle, h]
    exact if_pos hg
  · rw [hcheck, hidle, h]
    exact (if_neg hg).trans (if_pos (Bool.eq_false_iff.mpr (mt hok.mp hbad)))
  · rw [hcheck, hidle, h]
    refine (if_neg hg).trans ((if_neg ?_).trans (if_pos hfull))
    rw [hok.mpr hok']
    nofun
  · have hnone : s.shiftOut.startRunCheck (runArgs p) = none := by
      rw [hcheck, hidle, h]
      refine (if_neg hg).trans ((if_neg ?_).trans (if_neg (Nat.not_le.mpr hroom)))
      rw [hok.mpr hok']
      nofun
    rw [happended hnone, State.considerStart_idle (MustWait.startable (s := s.shiftOut) hwait _)]
    exact ⟨rfl, State.appendRun_appended (s := s.shiftOut)
      (show s.runs.queue.length ≤ 254 by omega) (startRunOf p 0)⟩

end Sys2Proof.Machine
end

section
/-! SUPPORT. The end of the sending (R85), and an outcome event that comes while no imprint is ENABLED (R86),
settled. -/

namespace Sys2Proof.Machine

/-- The record out: the imprint is ENABLED and the mechanism timer runs (R85). -/
theorem State.sendingEnd_sending {s : State} {f : InFlight} (hf : s.runs.inFlight = some f)
    (hp : f.phase = .sending) :
    s.sendingEnd = { s with runs := { s.runs with
      inFlight := some { f with phase := .enabled }, sending := [], sendTimer := none
      mechTimer := some 3000 } } := by
  simp only [State.sendingEnd, State.modRuns, hf, hp, if_true]

/-- An imprint whose record is being sent takes no outcome (R86). -/
theorem State.enabledImprint_none {s : State}
    (h : ∀ f ∈ s.runs.inFlight, f.phase = .sending) : s.enabledImprint = none := by
  unfold State.enabledImprint
  split
  · rfl
  · next f hf =>
    rw [if_neg]
    rw [h f hf]
    nofun

/-- LATE_OUTCOME raised and the outputs driven: nothing else moves. -/
theorem State.lateOutcome_raised (s : State) :
    RaisedWithin s.port (s.raise .lateOutcome).driveOutputs.port [.lateOutcome] ∧
    (s.raise .lateOutcome).driveOutputs.alarm .lateOutcome = true :=
  ⟨s.raise_within (by simp), State.alarm_raise_self _ _⟩

section
variable {s : State} (h : ∀ f ∈ s.runs.inFlight, f.phase = .sending)
include h

theorem State.doneRise_late : s.doneRise = (s.takeLevel .done true).raise .lateOutcome := by
  unfold State.doneRise
  dsimp only
  rw [State.enabledImprint_none (s := s.takeLevel .done true) h]

theorem State.faultRise_late : s.faultRise = (s.takeLevel .fault true).raise .lateOutcome := by
  unfold State.faultRise
  dsimp only
  rw [State.enabledImprint_none (s := s.takeLevel .fault true) h]

theorem State.mechExpiry_late :
    s.mechExpiry = (s.modRuns fun u => { u with mechTimer := none }).raise .lateOutcome := by
  unfold State.mechExpiry
  rw [State.enabledImprint_none h]

end

/-- Settles O30, by the phase of the imprint in flight. -/
theorem sendingEndsAndLateOutcomesAreAlarmed : Obligations.SendingEndsAndLateOutcomesAreAlarmed := by
  unfold Obligations.SendingEndsAndLateOutcomesAreAlarmed
  refine fun s => ⟨fun f hf hp => ⟨_, rfl, ?_, ?_⟩, fun h => ⟨⟨_, rfl, ?_⟩, ⟨_, rfl, ?_⟩, ⟨_, rfl, ?_⟩⟩⟩
  · rw [State.sendingEnd_sending hf hp]
    rfl
  · rw [State.sendingEnd_sending hf hp]
    rfl
  · rw [State.doneRise_late h]
    exact ⟨rfl, State.lateOutcome_raised (s.takeLevel .done true)⟩
  · rw [State.faultRise_late h]
    exact ⟨rfl, State.lateOutcome_raised (s.takeLevel .fault true)⟩
  · rw [State.mechExpiry_late h]
    exact ⟨rfl, State.lateOutcome_raised (s.modRuns _)⟩

end Sys2Proof.Machine
end

section
/-! SUPPORT. The time base (R125, R149, R186): one sample of a line, the edges handed to their owners, the
expiry that is due and 1 ms of timers and ages, settled. -/

namespace Sys2Proof.Machine

/-! ## One sample -/

/-- One sample of a line is that of R186. -/
theorem Qualifier.sample_eq (q : Qualifier) (n : Nat) : q.sample n = sampledOnce q n := by
  obtain ⟨level, settled, count, last, pin⟩ := q
  have hother : (pin = !level) ↔ ¬ pin = level := by cases pin <;> cases level <;> decide
  unfold Qualifier.sample sampledOnce Qualifier.takes
  dsimp only
  by_cases hmet : n ≤ count
  · simp only [hmet, hother, if_true, ite_not]
  · cases settled with
    | true => simp only [hmet, if_true, if_false]; grind
    | false => simp only [hmet, if_false, Bool.false_eq_true]; grind

theorem State.sampled_get (s : State) (l : Line) :
    s.sampled.get l = sampledOnce (s.lines.get l) (s.qOf l) := by
  cases l <;> exact Qualifier.sample_eq _ _

/-! ## The edges -/

/-- The edges that have an owner, in the order of R186, each with its row. -/
def ownedEdges : List (Line × Bool × Instr) :=
  [(.issueA, true, .issueRise .a), (.issueB, true, .issueRise .b),
    (.reelLowA, true, .reelLowRise .a), (.reelLowB, true, .reelLowRise .b),
    (.service, false, .serviceFall), (.done, true, .doneRise), (.fault, true, .faultRise)]

theorem edgeEvent_owned {x : Line × Bool × Instr} (h : x ∈ ownedEdges) (level : Bool) :
    edgeEvent x.1 level = if level = x.2.1 then some x.2.2 else none := by
  simp only [ownedEdges, List.mem_cons, List.not_mem_nil, or_false] at h
  rcases h with rfl | rfl | rfl | rfl | rfl | rfl | rfl <;> cases level <;> rfl

/-- The edges queued are those of settled lines that have taken the level their owner waits for. -/
theorem edgeEvents_eq (before after : LineBank) :
    edgeEvents before after = (ownedEdges.filter fun x =>
      (before.get x.1).settled && (before.get x.1).level != x.2.1 &&
        (after.get x.1).level == x.2.1).map (·.2.2) := by
  have hlines : allLines = ownedEdges.map (·.1) ++ [.clean] := rfl
  have hclean : ([Line.clean].filterMap fun l =>
      if (before.get l).settled && (before.get l).level != (after.get l).level then
        edgeEvent l (after.get l).level
      else none) = [] := by
    have hnone (b : Bool) : edgeEvent .clean b = none := by cases b <;> rfl
    simp [hnone]
  unfold edgeEvents
  rw [hlines, List.filterMap_append, List.filterMap_map, ← List.filterMap_eq_map, List.filterMap_filter,
    hclean, List.append_nil]
  refine List.filterMap_congr fun x hx => ?_
  dsimp only [Function.comp_apply]
  rw [edgeEvent_owned hx]
  cases (before.get x.1).settled <;> cases (before.get x.1).level <;> cases (after.get x.1).level <;>
    cases x.2.1 <;> rfl

/-! ## The expiry that is due -/

/-- The list of an event that a timer brings, as the statement has it. -/
theorem head?_dueWhen (t : Option Nat) (e : Instr) :
    (if t = some 0 then [e] else []).head? = dueWhen t e := by
  unfold dueWhen
  split <;> rfl

theorem head?_pledgeDue (e : PledgeEntry) :
    (if e.offer = none then
      if 400 ≤ e.age then
        [Instr.backupDelayExpiry (BitVec.ofNat 5 e.requester) (BitVec.ofNat 16 e.wantNo)]
      else []
    else if 1500 ≤ e.age then
      [.pledgeTimerExpiry (BitVec.ofNat 5 e.requester) (BitVec.ofNat 16 e.wantNo)]
    else []).head? = e.due := by
  unfold PledgeEntry.due stationKey wantKey
  cases e.offer <;> simp only [reduceCtorEq, if_true, if_false] <;> split <;> rfl

theorem head?_reelDue (r : Reel) :
    (if r.check = .asking then
      if r.askWindow = some 0 then [Instr.askWindowExpiry (BitVec.ofNat 32 r.id)] else []
    else []).head? = r.due := by
  unfold Reel.due
  split
  · exact head?_dueWhen _ _
  · rfl

theorem State.head?_peerDue (s : State) (x : Peer) :
    (if x.liveness = .live ∧ 3 * ((s.port.settings.map (·.interval)).getD 5 * 1000) ≤ x.age then
      [Instr.peerAgeing (BitVec.ofNat 5 x.station)]
    else []).head? = s.peerDue x := by
  unfold State.peerDue stationKey State.intervalMs
  split <;> rfl

/-! ## The time base -/

/-- Settles O2: the events due in their order, or 1 ms with its sample of every line. -/
theorem idleStepIsTheTimeBase : Obligations.IdleStepIsTheTimeBase := by
  unfold Obligations.IdleStepIsTheTimeBase
  intro s hempty less qSensor qMech at0 due edges
  have hdue : due.head? = s.dueEvent := by
    unfold due at0 State.dueEvent
    simp only [List.head?_append, List.head?_flatMap, head?_dueWhen, head?_pledgeDue, head?_reelDue,
      State.head?_peerDue, Option.or_assoc]
  refine ⟨fun c hc => step_due hempty (hdue ▸ hc), fun hnone => ⟨_, step_tick hempty ?_, ?_, ?_, ?_⟩⟩
  · rw [← hdue, hnone]
    rfl
  · have hpending : s.pending ++ edgeEvents s.lines s.sampled = (edges.filter fun x =>
        (s.lines.get x.1).settled && (s.lines.get x.1).level != x.2.1 &&
          (s.sampled.get x.1).level == x.2.1).map (·.2.2) := by
      rw [hempty, List.nil_append]
      exact edgeEvents_eq _ _
    exact congrArg (fun p => { s.tick.driveOutputs with pending := p }) hpending
  · intro l hl
    have hq : s.qOf l = qSensor := by
      simp only [List.mem_cons, List.not_mem_nil, or_false] at hl
      rcases hl with rfl | rfl | rfl | rfl | rfl <;> rfl
    exact hq ▸ s.sampled_get l
  · intro l hl
    have hq : s.qOf l = qMech := by
      simp only [List.mem_cons, List.not_mem_nil, or_false] at hl
      rcases hl with rfl | rfl | rfl <;> rfl
    exact hq ▸ s.sampled_get l

end Sys2Proof.Machine
end

section
/-! SUPPORT. The output pins (R85, R115, R142, R191, R194): every command ends by driving them, and what each of
them then shows, settled. -/

namespace Sys2Proof.Machine

/-! ## Every command drives the outputs -/

/-- A command frame ends by driving the outputs, refused or carried out. -/
theorem done_of_command {o : Host.Outcome State Fault Refusal} {s : State} {row : CommandRow}
    {p : List Byte} {body : State → State × Response} (h : o = s.runCommand row p body) :
    ∃ u, o = done u := by
  rw [h]
  unfold State.runCommand
  split <;> exact ⟨_, rfl⟩

/-- So does a read in parts. -/
theorem done_of_read {o : Host.Outcome State Fault Refusal} {s : State} {row : CommandRow}
    {p : List Byte} {read : PartsOf} {answer : List Byte} (h : o = s.runRead row p read answer) :
    ∃ u, o = done u := by
  rw [h]
  unfold State.runRead
  split <;> exact ⟨_, rfl⟩

theorem execNop_done (p : List Byte) (s : State) : ∃ u, execNop p s = done u := by
  unfold execNop
  split <;> exact ⟨_, rfl⟩

theorem execReset_done (p : List Byte) (s : State) : ∃ u, execReset p s = done u := by
  unfold execReset
  split <;> exact ⟨_, rfl⟩

theorem execApplyRefill_done (p : List Byte) (s : State) : ∃ u, execApplyRefill p s = done u := by
  unfold execApplyRefill
  split
  · exact ⟨_, rfl⟩
  · exact done_of_command rfl

theorem execSettleTimerExpiry_done (s : State) : ∃ u, execSettleTimerExpiry s = done u := by
  unfold execSettleTimerExpiry
  split <;> exact ⟨_, rfl⟩

/-- Every command and event answers a state whose outputs are driven (assumption log 31). -/
theorem exec_done (c : Instr) (s : State) : ∃ u, exec c s = done u := by
  cases c with
  | nop p => exact execNop_done p s
  | reset p => exact execReset_done p s
  | applyRefill p => exact execApplyRefill_done p s
  | settleTimerExpiry => exact execSettleTimerExpiry_done s
  | readQueue | readStock | readPeers => exact done_of_read rfl
  | status | configure | readLines | readRegisters | protectOff | protectOn
  | readAlarms | clearAlarms | setAlarmMask | clearAlarmMask | setDay
  | writePendingRate | setEffectiveDay | cancelPending | readRates | writeGrant
  | readGrant | closePeriod | openSlot | closeSlot | readSlot | bindFeeder
  | startRun | stopRun | resumeRun | readFinished | writeJob | readJob
  | startJob | resumeJob | haltJob | readWalker | mountReel | unmountReel
  | readBus | busRestart | requestCredit | readTransfers | discardUnresolved =>
    simp only [exec, execStatus, execConfigure, execReadLines, execReadRegisters, execProtectOff,
      execProtectOn, execReadAlarms, execClearAlarms, execSetAlarmMask, execClearAlarmMask, execSetDay,
      execWritePendingRate, execSetEffectiveDay, execCancelPending, execReadRates, execWriteGrant,
      execReadGrant, execClosePeriod, execOpenSlot, execCloseSlot, execReadSlot, execBindFeeder,
      execStartRun, execStopRun, execResumeRun, execReadFinished, execWriteJob, execReadJob, execStartJob,
      execResumeJob, execHaltJob, execReadWalker, execMountReel, execUnmountReel, execReadBus,
      execBusRestart, execRequestCredit, execReadTransfers, execDiscardUnresolved]
    exact done_of_command rfl
  | badCommand | shortFrame | transactionWhileBusy | restart | doneRise | faultRise
  | mechanismTimerExpiry | imprintSendingEnd | issueRise | reelLowRise | serviceFall
  | frameIgnored | duplicateStation | standing | want | pledge
  | take | ask | waive | settled | received
  | void | reelNoteMounted | reelNoteReleased | reelNoteEmpty
  | reelAsk | frameSent | frameNotSent | busOff | busControllerReturn | standingTimerExpiry
  | peerAgeing | wantWindowExpiry | pledgeTimerExpiry | backupDelayExpiry
  | retryIntervalExpiry | askWindowExpiry | lineSettled | qualifiedLevelChange =>
    exact ⟨_, rfl⟩

/-! ## What the outputs show -/

/-- PRINT_ENABLE is high exactly while an imprint is ENABLED (R85). -/
theorem State.printLevel_iff (s : State) :
    s.printLevel = true ↔ ∃ f ∈ s.runs.inFlight, f.phase = .enabled := by
  unfold State.printLevel
  cases s.runs.inFlight <;> simp

/-- ATTN is high exactly while an alarm is up that is not masked (R191). -/
theorem State.attnLevel_iff (s : State) :
    s.attnLevel = true ↔ ∃ i < 32, s.port.alarms.getLsbD i = true ∧ s.port.mask.getLsbD i = false := by
  have hzero : s.port.alarms &&& ~~~s.port.mask = 0#32 ↔
      ∀ i < 32, s.port.alarms.getLsbD i = true → s.port.mask.getLsbD i = true := by
    refine ⟨fun h i hi ha => ?_, fun h => BitVec.eq_of_getLsbD_eq fun i hi => ?_⟩
    · have hbit := congrArg (fun x : BitVec 32 => x.getLsbD i) h
      simpa [hi, ha] using hbit
    · have hbit := h i hi
      simp only [BitVec.getLsbD_and, BitVec.getLsbD_not, hi, decide_true, Bool.true_and,
        BitVec.getLsbD_zero, Bool.and_eq_false_iff, Bool.not_eq_false']
      exact (Bool.eq_false_or_eq_true _).symm.imp_right hbit
  unfold State.attnLevel
  rw [bne_iff_ne, ne_eq, hzero]
  simp only [not_forall, Bool.not_eq_true, exists_prop]

/-- Of two entries that name one feeder, neither can stand before the other. -/
theorem feeder_unique_of_pairwise {l : List Reel}
    (h : l.Pairwise fun q r => q.feeder = none ∨ q.feeder ≠ r.feeder) {q r : Reel} {f : Feeder}
    (hq : q ∈ l) (hr : r ∈ l) (hqf : q.feeder = some f) (hrf : r.feeder = some f) : q = r := by
  by_contra hne
  have hsymm : Std.Symm fun x y : Reel => ¬ (x.feeder = some f ∧ y.feeder = some f) :=
    ⟨fun _ _ hxy hyx => hxy hyx.symm⟩
  have hnot : l.Pairwise fun x y : Reel => ¬ (x.feeder = some f ∧ y.feeder = some f) :=
    h.imp fun hxy hboth => by simp [hboth.1, hboth.2] at hxy
  exact hnot.forall hq hr hne ⟨hqf, hrf⟩

/-- FEED_ENABLE of a feeder is high exactly while a slot and a reel let it feed (R142), where a feeder is bound
once and named once. -/
theorem State.feedLevel_iff {s : State} (h : FeedersSingle s) (f : Feeder) :
    s.feedLevel f = true ↔
      s.configured = true ∧ ∃ i < 4, ∃ r ∈ s.stock.table, FeedsFrom s f i r := by
  obtain ⟨hbound, hpair⟩ := h
  have hslot {i : Nat} (hi : i < 4) (hb : (s.slot i).bound f = true) : s.boundSlot f = some i :=
    find?_eq_of_unique (by simp; omega) hb fun j hj hjb =>
      hbound f (by cases f <;> simp) j (by simp at hj; omega) i hi hjb hb
  have hreel {r : Reel} (hr : r ∈ s.stock.table) (hm : r.state = .mounted) (hf : r.feeder = some f) :
      s.mountedIn f = some r :=
    find?_eq_of_unique hr (by simp [hm, hf]) fun q hq hp =>
      feeder_unique_of_pairwise hpair hq hr (by simpa using (Bool.and_eq_true_iff.mp hp).2) hf
  unfold State.feedLevel
  rw [Bool.and_eq_true]
  refine and_congr_right fun _ => ⟨fun hfeed => ?_, ?_⟩
  · split at hfeed
    · next i r hi hr =>
      obtain ⟨hi4, hb⟩ := State.boundSlot_some hi
      obtain ⟨hmem, hm, hf⟩ := State.mountedIn_some hr
      simp only [Bool.and_eq_true, beq_iff_eq, bne_iff_ne, decide_eq_true_iff, Bool.or_eq_true,
        and_assoc] at hfeed
      obtain ⟨hopen, hgrant, hleft, hcheck, hroom⟩ := hfeed
      exact ⟨i, hi4, r, hmem, hb, hopen, hgrant, hm, hf, hleft, hcheck, hroom⟩
    · cases hfeed
  · rintro ⟨i, hi, r, hr, hb, hopen, hgrant, hm, hf, hleft, hcheck, hroom⟩
    rw [hslot hi hb, hreel hr hm hf]
    simp [hopen, hgrant, hleft, hcheck, hroom]

/-- CAN_TX is recessive while the station does not send or no frame is loaded (R115). -/
theorem State.canLevel_recessive {s : State}
    (h : s.bus.state = .quiet ∨ s.bus.state = .off ∨ s.bus.state = .silenced ∨
      ∀ e ∈ s.bus.tx, e.loaded = false) : s.canLevel = .recessive := by
  have hquiet (hstate : s.bus.state = .quiet ∨ s.bus.state = .off ∨ s.bus.state = .silenced) :
      s.canLevel = .recessive :=
    State.canLevel_quiet (by rcases hstate with e | e | e <;> simp [State.busSends, e])
  rcases h with e | e | e | hidle
  · exact hquiet (.inl e)
  · exact hquiet (.inr (.inl e))
  · exact hquiet (.inr (.inr e))
  · have hnone : s.bus.tx.find? (·.loaded) = none :=
      List.find?_eq_none.mpr fun e he => by simp [hidle e he]
    unfold State.canLevel
    rw [hnone]
    cases s.station <;> rfl

/-- The frame on CAN_TX is the loaded one (R113, R115). -/
theorem State.canLevel_sending {s : State} (h : s.bus.state = .joining ∨ s.bus.state = .active)
    {n : Nat} (hn : s.station = some n) {e : TxEntry} (he : s.bus.tx.find? (·.loaded) = some e) :
    s.canLevel = .sending (e.frame.code * 32 + n) e.frame.data := by
  have hsends : s.busSends = true := by rcases h with h | h <;> simp [State.busSends, h]
  unfold State.canLevel
  rw [hn, he]
  exact if_pos hsends

/-- Settles O5: the outputs driven at the end of every command, pin by pin. -/
theorem outputsFollowTheState : Obligations.OutputsFollowTheState := by
  unfold Obligations.OutputsFollowTheState
  intro c s
  obtain ⟨u, hu⟩ := exec_done c s
  refine ⟨_, hu, u.printLevel_iff, u.attnLevel_iff, fun h f _ => ?_, State.canLevel_recessive (s := u),
    fun h n hn e he => State.canLevel_sending (s := u) h hn he, fun h => ?_, ?_, ?_⟩
  · cases f <;> exact State.feedLevel_iff (s := u) h _
  · exact (State.linkBits_idle (s := u) h).2
  · rfl
  · rfl

end Sys2Proof.Machine
end

section
/-! SUPPORT. The reads in parts (R183): the parts of an answer, and what READ QUEUE, READ PEERS and READ STOCK
carry (R96, R127, R146), settled. -/

namespace Sys2Proof.Machine

/-! ## The parts of an answer -/

theorem byte_eq (n : Nat) : byte n = [BitVec.ofNat 8 n] := by
  simp [byte, beBytes]

/-- The response of part k with its stretch (R183). -/
theorem partResponse_eq (k : Byte) (parts : List (List Byte)) (x : List Byte) :
    partResponse k.toNat parts x = ⟨.ok, k :: BitVec.ofNat 8 parts.length :: x⟩ := by
  simp [partResponse, byte_eq]

theorem length_stretches (n : Nat) (bytes : List Byte) : (stretches n bytes).length = n := by
  induction n generalizing bytes with
  | zero => rfl
  | succ n ih => rw [stretches, List.length_cons, ih]

theorem length_of_mem_stretches (n : Nat) (bytes : List Byte) :
    ∀ x ∈ stretches n bytes, x.length ≤ 248 := by
  induction n generalizing bytes with
  | zero => nofun
  | succ n ih =>
    rw [stretches, List.forall_mem_cons]
    exact ⟨List.length_take_le _ _, ih _⟩

/-- Stretches enough for all the bytes spell them. -/
theorem flatten_stretches (n : Nat) (bytes : List Byte) (h : bytes.length ≤ n * 248) :
    (stretches n bytes).flatten = bytes := by
  induction n generalizing bytes with
  | zero => exact (List.length_eq_zero_iff.mp (by omega)).symm
  | succ n ih =>
    rw [stretches, List.flatten_cons, ih _ (by rw [List.length_drop]; omega), List.take_append_drop]

/-- The parts of an answer spell it, one at least, each of at most 248 bytes (R183). -/
theorem partsOf_spells (answer : List Byte) :
    (partsOf answer).flatten = answer ∧ partsOf answer ≠ [] ∧
      ∀ x ∈ partsOf answer, x.length ≤ 248 := by
  refine ⟨flatten_stretches _ _ (by omega), fun h => ?_, length_of_mem_stretches _ _⟩
  have hlen := congrArg List.length h
  rw [partsOf, length_stretches, List.length_nil] at hlen
  omega

/-- A read in parts, whatever its checks, shifts out and reads on its whole answer. -/
theorem exec_readCommand {s : State} (h : s.configured = true) (read : PartsOf) (k : Byte) :
    exec (readCommand read [k]) s =
      done (s.shiftOut.readParts read k.toNat (wholeAnswer s read)) := by
  have hpass (row : CommandRow) (hmin : row.minLen ≤ 1) (hmax : 1 ≤ row.maxLen)
      (hprot : row.prot = false) (answer : List Byte) :
      s.runRead row [k] read answer = done (s.shiftOut.readParts read k.toNat answer) := by
    have hcheck : s.portCheck row [k] = none :=
      State.portCheck_pass ⟨hmin, hmax⟩ h fun hp => absurd (hprot.symm.trans hp) (by decide)
    unfold State.runRead
    rw [hcheck, field_head]
  cases read <;> exact hpass _ (by decide) (by decide) rfl _

theorem State.readParts_zero (s : State) (read : PartsOf) (answer : List Byte) :
    s.readParts read 0 answer =
      (s.modPort fun p => { p with snapshot := some ⟨read, partsOf answer⟩ }).answer
        ⟨.ok, 0 :: BitVec.ofNat 8 (partsOf answer).length :: ((partsOf answer).head?).getD []⟩ := by
  rw [List.head?_eq_getElem?]
  exact congrArg (State.answer _) (partResponse_eq 0 _ _)

/-- A later part comes from the snapshot of the same read (R183). -/
theorem State.readParts_later (s : State) (read : PartsOf) {k : Byte} (h : k ≠ 0) (answer : List Byte) :
    s.readParts read k.toNat answer = s.answer
      (match s.port.snapshot with
        | none => ⟨.badArgument, []⟩
        | some snap =>
          if snap.of = read then
            match snap.parts[k.toNat]? with
            | none => ⟨.badArgument, []⟩
            | some x => ⟨.ok, k :: BitVec.ofNat 8 snap.parts.length :: x⟩
          else ⟨.badArgument, []⟩) := by
  have hk : k.toNat ≠ 0 := fun h0 => h (BitVec.eq_of_toNat_eq h0)
  unfold State.readParts
  rw [if_neg hk]
  cases s.port.snapshot with
  | none => rfl
  | some snap =>
    dsimp only
    split
    · cases snap.parts[k.toNat]? with
      | none => rfl
      | some x => exact congrArg s.answer (partResponse_eq k _ x)
    · rfl

/-! ## The whole answers -/

/-- The on-hand value leaves out the EMPTY entries (R146). -/
theorem StockUnit.onHand_eq (u : StockUnit) :
    u.onHand = ((u.table.filter fun r => r.state != .empty).map fun r =>
      r.denomination * r.remaining).sum := by
  unfold StockUnit.onHand
  induction u.table with
  | nil => rfl
  | cons r rest ih =>
    rw [List.map_cons, List.sum_cons, ih, List.filter_cons]
    by_cases h : r.state = .empty <;> simp [h]

/-- Settles O11: a part 0 makes the snapshot, a later one reads it; the answers field after field. -/
theorem partsDescribeOneMoment : Obligations.PartsDescribeOneMoment := by
  unfold Obligations.PartsDescribeOneMoment
  refine fun s k hc => ⟨fun read _ => ⟨?_, fun hk => ⟨_, exec_readCommand hc read k, ?_⟩⟩, ?_, ?_, ?_⟩
  · rintro rfl _
    obtain ⟨hflat, hne, hlen⟩ := partsOf_spells (wholeAnswer s read)
    refine ⟨_, exec_readCommand hc read 0, ?_⟩
    rw [show BitVec.toNat (0 : Byte) = 0 from rfl, State.readParts_zero]
    exact ⟨rfl, _, rfl, rfl, hflat, hne, hlen, rfl⟩
  · rw [State.readParts_later _ _ hk]
    rfl
  · simp only [wholeAnswer, State.queueBytes, listOf, List.append_assoc]
    refine congrArg (_ ++ ·) (congrArg₂ (· ++ ·) (congrArg s.runs.queue.flatMap (funext fun r => ?_)) ?_)
    · unfold Run.bytes
      simp only [listOf, List.append_assoc]
      cases r.source <;> cases r.pendingEnd <;> rfl
    · cases s.runs.inFlight with
      | none => rfl
      | some f => cases hp : f.phase <;> simp [hp, orZero, orOnes, byte, Phase.code]
  · refine congrArg (_ ++ ·) (congrArg s.bus.peers.flatMap (funext fun x => ?_))
    unfold Peer.bytes
    cases x.liveness <;> rfl
  · simp only [wholeAnswer, State.stockBytes, StockUnit.onHand_eq, listOf, List.append_assoc]
    refine congrArg (_ ++ ·) (congrArg₂ (· ++ ·) (congrArg s.stock.table.flatMap (funext fun r => ?_)) ?_)
    · unfold Reel.bytes
      simp only [List.append_assoc]
      cases r.feeder with
      | none => rfl
      | some f => cases f <;> rfl
    · rfl

end Sys2Proof.Machine
end

section
/-! SUPPORT. READ FINISHED, READ JOB, READ WALKER, READ BUS and READ TRANSFERS (R95, R99, R111, R127, R167):
what they carry, settled. -/

namespace Sys2Proof.Machine

/-! ## The records -/

/-- The reading of job memory (R99). -/
theorem readJobBody_eq (a1 a2 len : Byte) (s : State) :
    readJobBody [a1, a2, len] s =
      if 4095 < a1.toNat * 256 + a2.toNat ∨ len = 0 ∨ 56 < len.toNat then (s, refusal .badArgument)
      else (s, ⟨.ok, (List.range len.toNat).map fun k =>
        s.job.memory.read ((a1.toNat * 256 + a2.toNat + k) % 4096)⟩) := by
  have hzero : len.toNat = 0 ↔ len = 0 := by rw [← BitVec.toNat_inj]; rfl
  have hlen : field [a1, a2, len] 2 1 = len.toNat := by simp [field, beNat]
  unfold readJobBody
  dsimp only
  simp only [field_pair, hlen, hzero, Memory.jobBytes_eq_map]

/-- A command without payload that reads: its answer, under another spelling. -/
theorem State.runCommand_reads {s : State} (h : s.configured = true) {row : CommandRow}
    (hmin : row.minLen = 0) (hprot : row.prot = false) (f : State → List Byte) {bytes : List Byte}
    (hf : f s.shiftOut = bytes) :
    ∃ t, s.runCommand row [] (fun u => (u, ⟨.ok, f u⟩)) = .next t ∧ OnlyRead s t bytes :=
  s.runCommand_onlyRead _
    (State.portCheck_pass ⟨hmin.le, Nat.zero_le _⟩ h fun hp => absurd (hprot.symm.trans hp) (by decide))
    (by rw [hf])

/-- Settles O10: the checks of READ JOB, and each answer field after field. -/
theorem listReadsCarryTheRecords : Obligations.ListReadsCarryTheRecords := by
  unfold Obligations.ListReadsCarryTheRecords
  intro s a1 a2 len hc
  obtain ⟨c, hset⟩ : ∃ c, s.port.settings = some c := Option.isSome_iff_exists.mp hc
  refine ⟨State.runCommand_reads (row := .readFinished) hc rfl rfl State.finishedBytes ?_, ?_,
    State.runCommand_reads (row := .readWalker) hc rfl rfl (·.job.walker.bytes) ?_,
    State.runCommand_reads (row := .readBus) hc rfl rfl State.busBytes ?_,
    State.runCommand_reads (row := .readTransfers) hc rfl rfl State.transfersBytes ?_⟩
  · refine congrArg (· ++ _) (congrArg (_ ++ ·) (congrArg s.runs.finished.flatMap (funext fun f => ?_)))
    unfold Finished.bytes
    cases f.source <;> rfl
  · obtain ⟨t, ht, hbad, hok⟩ := s.runCommand_read (row := .readJob) (p := [a1, a2, len])
      (readJobBody [a1, a2, len]) (State.portCheck_pass ⟨Nat.le_refl 3, Nat.le_refl 3⟩ hc nofun)
      (readJobBody_eq a1 a2 len s.shiftOut)
    exact ⟨t, ht, hbad, fun ha hlen hmax => hok (by
      rintro (h | h | h)
      exacts [by omega, hlen h, by omega])⟩
  · dsimp only [State.shiftOut, State.modPort]
    unfold Walker.bytes
    cases s.job.walker.copy <;> rfl
  · have hset' : s.shiftOut.port.settings = some c := hset
    unfold State.busBytes State.station
    rw [hset', hset]
    simp only [List.append_assoc]
    rfl
  · have hset' : s.shiftOut.port.settings = some c := hset
    unfold State.transfersBytes State.lowWater State.target
    rw [hset', hset]
    simp only [listOf, List.append_assoc]
    refine congrArg₂ (· ++ ·) ?_ (congrArg (_ ++ ·) (congrArg₂ (· ++ ·)
      (congrArg s.share.pledges.flatMap (funext fun e => ?_)) ?_))
    · rw [show s.shiftOut.share = s.share from rfl]
      unfold SharingUnit.wantBytes SharingUnit.wantTime
      cases s.share.want with
      | none =>
        simp only [List.append_assoc]
        rfl
      | some w =>
        cases ht : w.taken with
        | none =>
          simp only [ht, Option.bind_some, List.append_assoc]
          rfl
        | some k =>
          simp only [ht, Option.bind_some, List.append_assoc]
          rfl
    · unfold PledgeEntry.bytes
      cases e.offer <;> simp [orZero, byte]
    · rfl

end Sys2Proof.Machine
end

section
/-! SUPPORT. WRITE JOB and the parse of a job line (R98 to R101, R105, R193), settled. -/

namespace Sys2Proof.Machine

/-! ## WRITE JOB -/

/-- Bytes written to job memory, at most as many as it has addresses, are read back in order. -/
theorem Memory.read_jobWrite (m : Memory) (a : Nat) {bytes : List Byte} (h : bytes.length ≤ 4096)
    {k : Nat} (hk : k < bytes.length) :
    some ((m.jobWrite a bytes).read ((a + k) % 4096)) = bytes[k]? := by
  induction bytes generalizing m a k with
  | nil => exact absurd hk (Nat.not_lt_zero k)
  | cons b rest ih =>
    rw [List.length_cons] at h hk
    unfold Memory.jobWrite
    cases k with
    | zero =>
      rw [Memory.read_jobWrite_of_ne _ _ _ _ fun j hj => by omega]
      simp
    | succ k =>
      have hrest := ih (m.write (a % 4096) b) (a + 1) (by omega) (k := k) (by omega)
      rwa [show a + 1 + k = a + (k + 1) by omega] at hrest

/-- WRITE JOB with an address or a number of bytes out of range (R99). -/
theorem writeJobBody_bad {p : List Byte} {s : State}
    (h : 4095 < field p 0 2 ∨ p.length ≤ 2 ∨ 58 < p.length) :
    writeJobBody p s = (s, refusal .badArgument) := if_pos h

/-- WRITE JOB carried out (R99). -/
theorem writeJobBody_ok {p : List Byte} {s : State}
    (h : ¬ (4095 < field p 0 2 ∨ p.length ≤ 2 ∨ 58 < p.length)) :
    writeJobBody p s =
      ({ s with job := { s.job with memory := s.job.memory.jobWrite (field p 0 2) (p.drop 2) } },
        ⟨.ok, []⟩) := if_neg h

/-- Settles O33: the check of R99, and each address of the memory written, reached or not. -/
theorem writeJobWritesItsBytes : Obligations.WriteJobWritesItsBytes := by
  intro s p hc hmin hmax
  have hpass : s.portCheck .writeJob p = none := State.portCheck_pass ⟨hmin, hmax⟩ hc nofun
  by_cases hbad : 4095 < field p 0 2 ∨ p.length ≤ 2 ∨ 58 < p.length
  · obtain ⟨t, ht, hrefused⟩ :=
      s.runCommand_bodyRefused _ hpass (writeJobBody_bad (s := s.shiftOut) hbad) nofun
    exact ⟨t, ht, fun _ => hrefused, fun ha hlo hhi => by omega⟩
  · have hlen : (p.drop 2).length = p.length - 2 := List.length_drop
    refine ⟨_, s.runCommand_ok _ hpass (writeJobBody_ok (s := s.shiftOut) hbad), fun h => by omega,
      fun ha hlo hhi => ⟨rfl, fun k hk => ?_, fun a _ hne => ?_, fun hwf => ?_⟩⟩
    · rw [show p[k + 2]? = (p.drop 2)[k]? by rw [List.getElem?_drop, Nat.add_comm]]
      exact Memory.read_jobWrite s.job.memory _ (by omega) (by omega)
    · exact Memory.read_jobWrite_of_ne s.job.memory _ _ a (hlen ▸ hne)
    · exact Memory.wf_jobWrite hwf _ _

/-! ## Bytes that stand in job memory -/

/-- The bytes stand in job memory from an address on, wrapping (R98). -/
def Memory.Holds (m : Memory) (a : Nat) (bytes : List Byte) : Prop :=
  m.jobBytes a bytes.length = bytes

@[simp] theorem Memory.length_jobBytes (m : Memory) (a n : Nat) : (m.jobBytes a n).length = n := by
  rw [Memory.jobBytes_eq_map, List.length_map, List.length_range]

theorem Memory.holds_nil (m : Memory) (a : Nat) : m.Holds a [] := rfl

theorem Memory.holds_cons (m : Memory) (a : Nat) (b : Byte) (rest : List Byte) :
    m.Holds a (b :: rest) ↔ m.jobRead a = b ∧ m.Holds (a + 1) rest := List.cons_eq_cons

/-- Bytes stand one part after the other. -/
theorem Memory.holds_append (m : Memory) (a : Nat) (x y : List Byte) :
    m.Holds a (x ++ y) ↔ m.Holds a x ∧ m.Holds (a + x.length) y := by
  induction x generalizing a with
  | nil => exact (and_iff_right (m.holds_nil a)).symm
  | cons b rest ih =>
    rw [List.cons_append, Memory.holds_cons, Memory.holds_cons, ih, and_assoc, List.length_cons,
      Nat.add_assoc, Nat.add_comm 1]

/-- A number stands laid out in n bytes exactly when they spell it (R193). -/
theorem Memory.holds_beBytes (m : Memory) (a n : Nat) {v : Nat} (h : v < 256 ^ n) :
    m.Holds a (beBytes n v) ↔ beNat (m.jobBytes a n) = v := by
  unfold Memory.Holds
  rw [length_beBytes]
  constructor
  · intro heq
    rw [heq, beNat_beBytes, Nat.mod_eq_of_lt h]
  · intro heq
    have hback := beBytes_beNat (m.jobBytes a n)
    rwa [Memory.length_jobBytes, heq, eq_comm] at hback

/-- The number that n bytes of job memory spell is in the range of n bytes. -/
theorem Memory.beNat_jobBytes_lt (m : Memory) (a n : Nat) : beNat (m.jobBytes a n) < 256 ^ n := by
  simpa using beNat_lt (m.jobBytes a n)

/-! ## The parts of a job line -/

/-- A byte is laid out from a number exactly when that is its number. -/
theorem eq_byte_iff (b : Byte) {v : Nat} (h : v < 256) : b = BitVec.ofNat 8 v ↔ b.toNat = v := by
  rw [← BitVec.toNat_inj, toNat_byte, Nat.mod_eq_of_lt h]

/-- The terminator in the place of an endorsement ends the reading (R105). -/
theorem readEndorsements_eq_nil (m : Memory) (n a e : Nat) :
    readEndorsements m n a = some ([], e) ↔ m.jobRead a = 127 ∧ e = a + 1 := by
  have hterm : m.jobRead a = 127#8 ↔ (m.jobRead a).toNat = 127 := eq_byte_iff _ (by decide)
  cases n with
  | zero => simp [readEndorsements, eq_comm]
  | succ n =>
    rw [readEndorsements]
    split_ifs with h hbad
    · simp [hterm.mpr h, eq_comm]
    · simp [hterm, h]
    · simp [hterm, h]

/-- An endorsement is read from a byte in its range, when one more is allowed (R105). -/
theorem readEndorsements_eq_cons (m : Memory) (n a v e : Nat) (es : List Nat) :
    readEndorsements m (n + 1) a = some (v :: es, e) ↔
      (1 ≤ v ∧ v ≤ 126) ∧ (m.jobRead a).toNat = v ∧ readEndorsements m n (a + 1) = some (es, e) := by
  rw [readEndorsements]
  split_ifs with h hbad
  · exact iff_of_false nofun fun ⟨_, hb, _⟩ => by omega
  · exact iff_of_false nofun fun ⟨_, hb, _⟩ => by omega
  · simp only [Option.map_eq_some_iff, Prod.exists, Prod.mk.injEq, List.cons.injEq]
    constructor
    · rintro ⟨_, _, hrest, ⟨rfl, rfl⟩, rfl⟩
      exact ⟨by omega, rfl, hrest⟩
    · rintro ⟨_, hb, hrest⟩
      exact ⟨es, e, hrest, ⟨hb, rfl⟩, rfl⟩

/-- The endorsements read are those that stand in memory with the terminator behind them, no more than
are allowed and each a byte from 1 to 126 (R100, R105). -/
theorem readEndorsements_eq_some (m : Memory) (n a : Nat) (es : List Nat) (e : Nat) :
    readEndorsements m n a = some (es, e) ↔
      (es.length ≤ n ∧ ∀ v ∈ es, 1 ≤ v ∧ v ≤ 126) ∧
        m.Holds a (es.map (BitVec.ofNat 8) ++ [127]) ∧ e = a + (es.length + 1) := by
  induction es generalizing n a with
  | nil => simp [readEndorsements_eq_nil, Memory.holds_cons, Memory.holds_nil]
  | cons v es ih =>
    cases n with
    | zero =>
      rw [readEndorsements]
      split_ifs <;> simp
    | succ n =>
      rw [readEndorsements_eq_cons, ih, List.map_cons, List.cons_append, Memory.holds_cons,
        List.forall_mem_cons, List.length_cons]
      constructor
      · rintro ⟨hv, hb, ⟨hlen, hes⟩, hrest, hend⟩
        exact ⟨⟨by omega, hv, hes⟩, ⟨(eq_byte_iff _ (by omega)).mpr hb, hrest⟩, by omega⟩
      · rintro ⟨⟨hlen, hv, hes⟩, ⟨hb, hrest⟩, hend⟩
        exact ⟨hv, (eq_byte_iff _ (by omega)).mp hb, ⟨by omega, hes⟩, hrest, by omega⟩

/-- A flag is a bit of a word exactly when it is that bit's digit. -/
theorem eq_testBit_iff (b : Bool) (w k : Nat) : b = w.testBit k ↔ b.toNat = w / 2 ^ k % 2 := by
  rw [← Nat.toNat_testBit]
  cases b <;> cases w.testBit k <;> simp

/-- Each flag of the link word is one binary digit. -/
theorem LineCopy.flags_le (c : LineCopy) :
    c.linkEnd.toNat ≤ 1 ∧ c.linkHold.toNat ≤ 1 ∧ c.linkAllOrNone.toNat ≤ 1 ∧
      c.linkAutoClose.toNat ≤ 1 :=
  ⟨c.linkEnd.toNat_le, c.linkHold.toNat_le, c.linkAllOrNone.toNat_le, c.linkAutoClose.toNat_le⟩

/-- The link word of R101 is read back part by part. -/
theorem eq_linkWord_iff (c : LineCopy) {w : Nat} (hw : w < 65536) :
    (c.linkNext ≤ 4095 ∧ w = c.linkWord) ↔
      c.linkEnd = w.testBit 12 ∧ c.linkHold = w.testBit 13 ∧ c.linkAllOrNone = w.testBit 14 ∧
        c.linkAutoClose = w.testBit 15 ∧ c.linkNext = w % 4096 := by
  have hflags := c.flags_le
  simp only [eq_testBit_iff, LineCopy.linkWord]
  omega

theorem LineCopy.linkWord_lt (c : LineCopy) (h : c.linkNext ≤ 4095) : c.linkWord < 65536 := by
  have hflags := c.flags_le
  unfold LineCopy.linkWord
  omega

/-! ## The whole line -/

/-- The bytes of a job line before its endorsements (R100). -/
def LineCopy.fieldBytes (c : LineCopy) : List Byte :=
  beBytes 1 c.slot ++ beBytes 1 c.tariff ++ beBytes 2 c.weight ++ beBytes 2 c.count ++
    c.direct.elim [] (beBytes 3)

theorem jobLineBytes_eq (c : LineCopy) :
    jobLineBytes c = c.fieldBytes ++ (c.endorsements.map (BitVec.ofNat 8) ++ [127]) ++
      beBytes 2 c.linkWord := by
  unfold jobLineBytes LineCopy.fieldBytes
  cases c.direct <;> simp

/-- The fields of a line before its endorsements: each in its range and spelled by its bytes of job
memory, the direct value by the bytes from the sixth on where the tariff is 255 (R100, R105). -/
def LineFieldsAt (m : Memory) (a : Nat) (c : LineCopy) : Prop :=
  (c.slot ≤ 3 ∧ beNat (m.jobBytes a 1) = c.slot) ∧ beNat (m.jobBytes (a + 1) 1) = c.tariff ∧
  (c.weight ≤ 30000 ∧ beNat (m.jobBytes (a + 2) 2) = c.weight) ∧
  ((1 ≤ c.count ∧ c.count ≤ 9999) ∧ beNat (m.jobBytes (a + 4) 2) = c.count) ∧
  (c.tariff ≤ 31 ∧ c.direct = none ∨
    c.tariff = 255 ∧ ∃ v ∈ c.direct, (1 ≤ v ∧ v ≤ 999999) ∧ beNat (m.jobBytes (a + 6) 3) = v)

/-- The direct value takes three bytes more. -/
theorem LineFieldsAt.length_fieldBytes {m : Memory} {a : Nat} {c : LineCopy}
    (h : LineFieldsAt m a c) : c.fieldBytes.length = if c.tariff = 255 then 9 else 6 := by
  obtain ⟨_, _, _, _, ⟨htariff, hdirect⟩ | ⟨htariff, v, hdirect, _⟩⟩ := h
  · rw [if_neg (by omega)]
    simp [LineCopy.fieldBytes, hdirect]
  · rw [if_pos htariff]
    simp [LineCopy.fieldBytes, Option.mem_def.mp hdirect]

/-- The direct value is the one spelled where the tariff is 255, and none elsewhere. -/
theorem LineFieldsAt.direct_eq {m : Memory} {a : Nat} {c : LineCopy} (h : LineFieldsAt m a c) :
    (if c.tariff = 255 then some (beNat (m.jobBytes (a + 6) 3)) else none) = c.direct := by
  obtain ⟨_, _, _, _, ⟨htariff, hdirect⟩ | ⟨htariff, v, hdirect, _, hspelt⟩⟩ := h
  · rw [if_neg (by omega), hdirect]
  · rw [if_pos htariff, hspelt, Option.mem_def.mp hdirect]

/-- A line is parsed exactly when its fields, its endorsements and its link word are. -/
theorem parseLine_eq_some (m : Memory) (a : Nat) (c : LineCopy) :
    parseLine m a c.allOrNone c.autoClose = some c ↔
      LineFieldsAt m a c ∧
      ∃ e, readEndorsements m 8 (a + c.fieldBytes.length) = some (c.endorsements, e) ∧
        c.linkNext ≤ 4095 ∧ beNat (m.jobBytes e 2) = c.linkWord := by
  have hlink (e : Nat) := eq_linkWord_iff c (m.beNat_jobBytes_lt e 2)
  have hbyte : beNat (m.jobBytes (a + 1) 1) < 256 := m.beNat_jobBytes_lt (a + 1) 1
  simp only [hlink]
  unfold parseLine
  dsimp only [Nat.add_zero]
  constructor
  · intro h
    split at h
    · exact absurd h nofun
    next hgood =>
      obtain ⟨⟨es, e⟩, hread, hc⟩ := Option.map_eq_some_iff.mp h
      have hfields : LineFieldsAt m a c := by
        unfold LineFieldsAt
        rw [← hc]
        dsimp only
        refine ⟨⟨by omega, rfl⟩, rfl, ⟨by omega, rfl⟩, ⟨by omega, rfl⟩, ?_⟩
        split_ifs with htariff
        · exact .inr ⟨htariff, _, rfl, by omega, rfl⟩
        · exact .inl ⟨by omega, rfl⟩
      refine ⟨hfields, e, ?_⟩
      rw [hfields.length_fieldBytes, ← hc]
      exact ⟨hread, rfl, rfl, rfl, rfl, rfl⟩
  · rintro ⟨hfields, e, hread, hend, hhold, hall, hauto, hnext⟩
    have hdirect := hfields.direct_eq
    rw [hfields.length_fieldBytes] at hread
    obtain ⟨⟨hslotle, hslot⟩, htariff, ⟨hweightle, hweight⟩, ⟨hcountle, hcount⟩, hrange⟩ := hfields
    rw [if_neg (by obtain ⟨_, _⟩ | ⟨_, _, _, _, _⟩ := hrange <;> omega)]
    rw [← htariff] at hread
    refine Option.map_eq_some_iff.mpr ⟨(c.endorsements, e), hread, ?_⟩
    simp only [hslot, htariff, hweight, hcount, hdirect, ← hend, ← hhold, ← hall, ← hauto, ← hnext]

/-- The first four fields stand where they are spelled, and the direct value behind them. -/
theorem Memory.holds_fieldBytes (m : Memory) (a : Nat) {c : LineCopy} (hslot : c.slot < 256)
    (htariff : c.tariff < 256) (hweight : c.weight < 65536) (hcount : c.count < 65536) :
    m.Holds a c.fieldBytes ↔
      beNat (m.jobBytes a 1) = c.slot ∧ beNat (m.jobBytes (a + 1) 1) = c.tariff ∧
      beNat (m.jobBytes (a + 2) 2) = c.weight ∧ beNat (m.jobBytes (a + 4) 2) = c.count ∧
      m.Holds (a + 6) (c.direct.elim [] (beBytes 3)) := by
  unfold LineCopy.fieldBytes
  simp only [Memory.holds_append, List.length_append, length_beBytes, Nat.reduceAdd, and_assoc,
    Memory.holds_beBytes m a 1 hslot, Memory.holds_beBytes m (a + 1) 1 htariff,
    Memory.holds_beBytes m (a + 2) 2 hweight, Memory.holds_beBytes m (a + 4) 2 hcount]

/-- The fields read are those in range that stand in memory as they are laid out. -/
theorem lineFieldsAt_iff (m : Memory) (a : Nat) (c : LineCopy) :
    LineFieldsAt m a c ↔
      (c.slot ≤ 3 ∧ c.weight ≤ 30000 ∧ (1 ≤ c.count ∧ c.count ≤ 9999) ∧
        (c.tariff ≤ 31 ∧ c.direct = none ∨
          c.tariff = 255 ∧ ∃ v ∈ c.direct, 1 ≤ v ∧ v ≤ 999999)) ∧
      m.Holds a c.fieldBytes := by
  have hdirect {v : Nat} (hv : v ≤ 999999) :
      m.Holds (a + 6) (beBytes 3 v) ↔ beNat (m.jobBytes (a + 6) 3) = v :=
    m.holds_beBytes (a + 6) 3 (by omega)
  constructor
  · rintro ⟨⟨hslotle, hslot⟩, htariff, ⟨hweightle, hweight⟩, ⟨hcountle, hcount⟩, hd⟩
    have hbound := m.beNat_jobBytes_lt (a + 1) 1
    rw [m.holds_fieldBytes a (by omega) (by omega) (by omega) (by omega)]
    obtain ⟨hle, hnone⟩ | ⟨h255, v, hv, hrange, hspelt⟩ := hd
    · exact ⟨⟨hslotle, hweightle, hcountle, .inl ⟨hle, hnone⟩⟩, hslot, htariff, hweight, hcount,
        hnone ▸ m.holds_nil (a + 6)⟩
    · exact ⟨⟨hslotle, hweightle, hcountle, .inr ⟨h255, v, hv, hrange⟩⟩, hslot, htariff, hweight,
        hcount, Option.mem_def.mp hv ▸ (hdirect hrange.2).mpr hspelt⟩
  · rintro ⟨⟨hslotle, hweightle, hcountle, hd⟩, hholds⟩
    rw [m.holds_fieldBytes a (by omega) (by omega) (by omega) (by omega)] at hholds
    obtain ⟨hslot, htariff, hweight, hcount, hbytes⟩ := hholds
    refine ⟨⟨hslotle, hslot⟩, htariff, ⟨hweightle, hweight⟩, ⟨hcountle, hcount⟩,
      hd.imp_right ?_⟩
    rintro ⟨h255, v, hv, hrange⟩
    rw [Option.mem_def.mp hv] at hbytes
    exact ⟨h255, v, hv, hrange, (hdirect hrange.2).mp hbytes⟩

/-- Settles O34: the fields, the endorsements and the link word, each read from where it stands. -/
theorem jobLinesDecodeAsLaidOut : Obligations.JobLinesDecodeAsLaidOut := by
  intro m a c _
  have hholds : m.jobBytes a (jobLineBytes c).length = jobLineBytes c ↔ m.Holds a (jobLineBytes c) :=
    Iff.rfl
  have hword (h : c.linkNext ≤ 4095) (e : Nat) :
      m.Holds e (beBytes 2 c.linkWord) ↔ beNat (m.jobBytes e 2) = c.linkWord :=
    m.holds_beBytes e 2 (c.linkWord_lt h)
  rw [hholds, jobLineBytes_eq, Memory.holds_append, Memory.holds_append, parseLine_eq_some,
    lineFieldsAt_iff]
  have hplace : a + c.fieldBytes.length + (c.endorsements.length + 1) =
      a + (c.fieldBytes ++ (c.endorsements.map (BitVec.ofNat 8) ++ [127])).length := by
    simp [Nat.add_assoc]
  simp only [readEndorsements_eq_some, hplace]
  constructor
  · rintro ⟨⟨⟨hslot, hweight, hcount, hdirect⟩, hfields⟩, _, ⟨⟨hlen, hrange⟩, hes, rfl⟩, hnext, hlink⟩
    exact ⟨⟨hslot, hweight, hcount, hdirect, hlen, hrange, hnext⟩, ⟨hfields, hes⟩,
      (hword hnext _).mpr hlink⟩
  · rintro ⟨⟨hslot, hweight, hcount, hdirect, hlen, hrange, hnext⟩, ⟨hfields, hes⟩, hlink⟩
    exact ⟨⟨⟨hslot, hweight, hcount, hdirect⟩, hfields⟩, _, ⟨⟨hlen, hrange⟩, hes, rfl⟩, hnext,
      (hword hnext _).mp hlink⟩

end Sys2Proof.Machine
end

section
/-! SUPPORT. The bus frames: every field of a frame is read back from where it is laid out, and the bytes
that read as a frame are the ones it is laid out as (R113, R193). -/

namespace Sys2Proof.Machine

/-! ## Fields laid out and read -/

/-- A field of whole bytes is read where it is laid out. -/
theorem field_beBytes_toNat {n : Nat} (v : BitVec (8 * n)) (rest : List Byte) :
    field (beBytes n v.toNat ++ rest) 0 n = v.toNat := by
  have hlt : v.toNat < 256 ^ n := v.isLt.trans_eq (Nat.pow_mul 2 8 n)
  rw [field, List.drop_zero, List.take_left' (length_beBytes n _), beNat_beBytes, Nat.mod_eq_of_lt hlt]

theorem field_beBytes_toNat_last {n : Nat} (v : BitVec (8 * n)) :
    field (beBytes n v.toNat) 0 n = v.toNat := by
  simpa using field_beBytes_toNat v []

/-- The bytes in front of a field are passed over. -/
theorem field_append_of_le {x : List Byte} {off : Nat} (h : x.length ≤ off) (rest : List Byte) (n : Nat) :
    field (x ++ rest) off n = field rest (off - x.length) n := by
  rw [field, List.drop_append, List.drop_eq_nil_of_le h]
  rfl

theorem field_cons_of_pos {off : Nat} (h : 0 < off) (b : Byte) (rest : List Byte) (n : Nat) :
    field (b :: rest) off n = field rest (off - 1) n :=
  field_append_of_le (x := [b]) h rest n

/-- The bytes of a list that stand from a place on. -/
def segment (d : List Byte) (off n : Nat) : List Byte := (d.drop off).take n

/-- Two neighbouring segments are one. -/
theorem segment_append (d : List Byte) (off m n : Nat) :
    segment d off m ++ segment d (off + m) n = segment d off (m + n) := by
  unfold segment
  rw [← List.drop_drop, ← List.take_add]

theorem segment_whole {d : List Byte} {n : Nat} (h : d.length = n) : segment d 0 n = d :=
  List.take_of_length_le h.le

/-- A field read from bytes is laid out as the bytes it was read from. -/
theorem beBytes_field {d : List Byte} {off n : Nat} (h : off + n ≤ d.length) :
    beBytes n (BitVec.ofNat (8 * n) (field d off n)).toNat = segment d off n := by
  have hlen : (segment d off n).length = n := by simp [segment]; omega
  have hlt := beNat_lt (segment d off n)
  have hspelt := beBytes_beNat (segment d off n)
  rw [hlen] at hlt hspelt
  rw [BitVec.toNat_ofNat, Nat.pow_mul]
  exact (congrArg (beBytes n) (Nat.mod_eq_of_lt hlt)).trans hspelt

/-- One byte read from bytes is the byte there. -/
theorem byte_eq_segment {d : List Byte} {off : Nat} (h : off < d.length) :
    [(d[off]?).getD 0] = segment d off 1 := by
  rw [segment, List.drop_eq_getElem_cons h, List.getElem?_eq_getElem h]
  rfl

/-! ## Frames -/

/-- Kind codes have six bits (R113). -/
theorem busFrame_code_lt (f : BusFrame) : f.code < 64 := by
  cases f with
  | reelNote kind => cases kind <;> simp [BusFrame.code]
  | _ => simp [BusFrame.code]

theorem busFrame_length_data_le (f : BusFrame) : f.data.length ≤ 8 := by
  cases f <;> simp [BusFrame.data]

/-- A frame is read back from its kind code and its data, field by field. -/
theorem busFrameOf_data (f : BusFrame) : busFrameOf f.code f.data = some f := by
  cases f with
  | reelNote kind =>
    cases kind <;>
      simp [busFrameOf, BusFrame.code, BusFrame.data, field_beBytes_toNat, field_beBytes_toNat_last,
        field_append_of_le]
  | _ =>
    simp [busFrameOf, BusFrame.code, BusFrame.data, field_beBytes_toNat, field_beBytes_toNat_last,
      field_append_of_le, field_cons_of_pos]

/-- The data of an addressed kind without an amount: the station, then two numbers. -/
theorem addressed_bytes {d : List Byte} (h : 5 ≤ d.length) :
    (d[0]?).getD 0 :: (beBytes 2 (BitVec.ofNat 16 (field d 1 2)).toNat ++
      beBytes 2 (BitVec.ofNat 16 (field d 3 2)).toNat) = segment d 0 5 := by
  have hdest : [(d[0]?).getD 0] = segment d 0 1 := byte_eq_segment (by omega)
  have hwant := beBytes_field (d := d) (off := 1) (n := 2) (by omega)
  have hpledge := beBytes_field (d := d) (off := 3) (n := 2) (by omega)
  rw [← List.singleton_append, hdest, hwant, hpledge, segment_append, segment_append]

theorem addressed_amount_bytes {d : List Byte} (h : d.length = 8) :
    (d[0]?).getD 0 :: (beBytes 2 (BitVec.ofNat 16 (field d 1 2)).toNat ++
      beBytes 2 (BitVec.ofNat 16 (field d 3 2)).toNat ++
      beBytes 3 (BitVec.ofNat 24 (field d 5 3)).toNat) = d := by
  have hamount := beBytes_field (d := d) (off := 5) (n := 3) (by omega)
  rw [← List.cons_append, addressed_bytes (by omega), hamount, segment_append, segment_whole h]

theorem reelNote_bytes {d : List Byte} (h : d.length = 8) :
    beBytes 4 (BitVec.ofNat 32 (field d 0 4)).toNat ++
      beBytes 2 (BitVec.ofNat 16 (field d 4 2)).toNat ++
      beBytes 2 (BitVec.ofNat 16 (field d 6 2)).toNat = d := by
  have hreel := beBytes_field (d := d) (off := 0) (n := 4) (by omega)
  have hleft := beBytes_field (d := d) (off := 4) (n := 2) (by omega)
  have hdenomination := beBytes_field (d := d) (off := 6) (n := 2) (by omega)
  rw [hreel, hleft, hdenomination, segment_append, segment_append, segment_whole h]

theorem standing_bytes {d : List Byte} (h : d.length = 6) :
    beBytes 3 (BitVec.ofNat 24 (field d 0 3)).toNat ++
      beBytes 2 (BitVec.ofNat 16 (field d 3 2)).toNat ++ [(d[5]?).getD 0] = d := by
  have hsurplus := beBytes_field (d := d) (off := 0) (n := 3) (by omega)
  have hday := beBytes_field (d := d) (off := 3) (n := 2) (by omega)
  rw [hsurplus, hday, byte_eq_segment (by omega), segment_append, segment_append, segment_whole h]

theorem want_bytes {d : List Byte} (h : d.length = 5) :
    beBytes 2 (BitVec.ofNat 16 (field d 0 2)).toNat ++
      beBytes 3 (BitVec.ofNat 24 (field d 2 3)).toNat = d := by
  have hno := beBytes_field (d := d) (off := 0) (n := 2) (by omega)
  have hamount := beBytes_field (d := d) (off := 2) (n := 3) (by omega)
  rw [hno, hamount, segment_append, segment_whole h]

theorem reelAsk_bytes {d : List Byte} (h : d.length = 4) :
    beBytes 4 (BitVec.ofNat 32 (field d 0 4)).toNat = d := by
  have hreel := beBytes_field (d := d) (off := 0) (n := 4) (by omega)
  rw [hreel, segment_whole h]

/-- Kind code and data that read as a frame are the frame's own. -/
theorem code_data_of_busFrameOf {kind : Nat} {d : List Byte} {f : BusFrame}
    (h : busFrameOf kind d = some f) : f.code = kind ∧ f.data = d := by
  unfold busFrameOf at h
  dsimp only at h
  split at h <;> cases h
  case h_1 hl | h_3 hl | h_7 hl => exact ⟨rfl, addressed_amount_bytes hl⟩
  case h_2 hl | h_4 hl | h_5 hl | h_6 hl =>
    exact ⟨rfl, (addressed_bytes hl.ge).trans (segment_whole hl)⟩
  case h_8 hl => exact ⟨rfl, want_bytes hl⟩
  case h_9 hl | h_11 hl | h_12 hl => exact ⟨rfl, reelNote_bytes hl⟩
  case h_10 hl => exact ⟨rfl, reelAsk_bytes hl⟩
  case h_13 hl => exact ⟨rfl, standing_bytes hl⟩

/-- Settles O42: a frame laid out is read back field by field, and the segments a frame was read from make up the
data. -/
theorem busFramesReadAsLaidOut : Obligations.BusFramesReadAsLaidOut := by
  refine ⟨fun f station hlow hhigh => ?_, fun kind d f => code_data_of_busFrameOf⟩
  have hcode := busFrame_code_lt f
  have hkind : f.identifier station / 32 = f.code := by unfold BusFrame.identifier; omega
  refine ⟨by unfold BusFrame.identifier; omega, by unfold BusFrame.identifier; omega,
    busFrame_length_data_le f, ?_⟩
  rw [hkind, busFrameOf_data]

end Sys2Proof.Machine
end

section
/-! SUPPORT. The transmit queue: the place a frame takes among the others, and which of them is loaded (R120,
R121). -/

namespace Sys2Proof.Machine

/-! ## A frame joins the queue -/

/-- In a queue in order a frame joins behind every frame of a kind code not above its own. -/
theorem txInsert_eq_of_sorted (f : BusFrame) {l : List TxEntry}
    (h : (l.map fun e => e.frame.code).Pairwise (· ≤ ·)) :
    txInsert f l =
      (l.filter fun e => e.frame.code ≤ f.code) ++
        ⟨f, false⟩ :: l.filter fun e => f.code < e.frame.code := by
  induction l with
  | nil => rfl
  | cons d rest ih =>
    obtain ⟨hd, hrest⟩ := List.pairwise_cons.mp h
    unfold txInsert
    split
    · next hlt =>
      have habove : ∀ e ∈ d :: rest, f.code < e.frame.code := by
        rintro e (_ | ⟨_, he⟩)
        · exact hlt
        · exact hlt.trans_le (hd _ (List.mem_map_of_mem he))
      rw [List.filter_eq_nil_iff.mpr fun e he => by simpa using habove e he,
        List.filter_eq_self.mpr fun e he => by simpa using habove e he]
      rfl
    · next hge => rw [ih hrest]; simp [hge, Nat.not_lt.mp hge]

/-- A frame that cannot be sent, or stands in the queue already, changes nothing. -/
theorem State.enqueue_idle {s : State} {f : BusFrame} (h : s.busSends = false ∨ Queued s f) :
    s.enqueue f = s := by
  rcases s.enqueue_cases f with ⟨_, e⟩ | ⟨_, _, e⟩ | ⟨hs, _, _⟩ | ⟨hs, _, _⟩
  · exact e
  · exact e
  all_goals
    obtain ⟨x, hx, hf⟩ := h.resolve_left (by simp [hs])
    exact (if_pos hs).trans (if_pos (List.any_eq_true.mpr ⟨x, hx, by simp [hf]⟩))

theorem State.enqueue_room {s : State} {f : BusFrame} (hs : s.busSends = true) (hq : ¬ Queued s f)
    (hl : s.bus.tx.length < 16) :
    s.enqueue f = s.modBus fun b => { b with tx := txInsert f b.tx } := by
  rcases s.enqueue_cases f with ⟨h, _⟩ | ⟨_, h, _⟩ | ⟨_, _, e⟩ | ⟨_, h, _⟩
  · exact absurd hs (by simp [h])
  · exact absurd h hq
  · exact e
  · omega

theorem State.enqueue_full {s : State} {f : BusFrame} (hs : s.busSends = true) (hq : ¬ Queued s f)
    (hl : 16 ≤ s.bus.tx.length) : s.enqueue f = s.raise .txOverflow := by
  rcases s.enqueue_cases f with ⟨h, _⟩ | ⟨_, h, _⟩ | ⟨_, h, _⟩ | ⟨_, _, e⟩
  · exact absurd hs (by simp [h])
  · exact absurd h hq
  · omega
  · exact e

/-! ## The front is loaded -/

/-- Only the front of the queue can be loaded, and it is while the controller is on the bus (R118, R120). -/
def FrontLoaded (on : Bool) (t : State) : Prop :=
  (∀ e ∈ t.bus.tx.head?, e.loaded = on) ∧ ∀ e ∈ t.bus.tx.drop 1, e.loaded = false

/-- With no frame loaded, loading the front is for the controller to allow. -/
theorem State.loadFront_tx {s : State} (h : ∀ e ∈ s.bus.tx, e.loaded = false) :
    s.loadFront.bus.tx = if s.bus.controllerOn then txLoad s.bus.tx else s.bus.tx := by
  have hall : (s.bus.tx.all fun e => !e.loaded) = true := by simpa using h
  unfold State.loadFront
  rw [hall, Bool.and_true]
  split <;> rfl

theorem State.loadFront_frontLoaded {s : State} (h : ∀ e ∈ s.bus.tx, e.loaded = false) :
    FrontLoaded s.bus.controllerOn s.loadFront := by
  unfold FrontLoaded
  rw [State.loadFront_tx h]
  cases htx : s.bus.tx with
  | nil => simp [txLoad]
  | cons d rest =>
    rw [htx] at h
    obtain ⟨hd, hrest⟩ := List.forall_mem_cons.mp h
    cases s.bus.controllerOn
    · simpa [hd] using hrest
    · simpa [txLoad] using hrest

/-! ## The report on the frame being sent -/

theorem any_loaded_eq_false {l : List TxEntry} (h : ∀ e ∈ l, e.loaded = false) :
    l.any (·.loaded) = false := by
  simpa using h

/-- An entry is a STANDING that waits when it is not loaded and of the kind code of a STANDING. -/
theorem TxEntry.waitingStanding_eq (e : TxEntry) :
    e.waitingStanding = (!e.loaded && e.frame.code == 48) := by
  obtain ⟨f, loaded⟩ := e
  unfold TxEntry.waitingStanding
  cases f with
  | reelNote kind => cases kind <;> simp [BusFrame.code]
  | _ => simp [BusFrame.code]

/-- The queue without the frame being sent (R120). -/
def State.txDropped (s : State) : State :=
  s.modBus fun b => { b with tx := b.tx.filter fun e => !e.loaded }

theorem State.txDropped_waits (s : State) : ∀ e ∈ s.txDropped.bus.tx, e.loaded = false := by
  simp [State.txDropped]

/-- No frame loaded: neither report of the controller changes anything. -/
theorem State.frameSent_unloaded {s : State} (h : ∀ e ∈ s.bus.tx, e.loaded = false) :
    s.frameSent = s :=
  if_neg (by simp [any_loaded_eq_false h])

theorem State.frameNotSent_unloaded {s : State} (h : ∀ e ∈ s.bus.tx, e.loaded = false) :
    s.frameNotSent = s :=
  if_neg (by simp [any_loaded_eq_false h])

/-- The station active, its first own frame sent and gone (R116). -/
def State.activated (s : State) : State := s.txDropped.modBus fun b => { b with state := .active }

/-- Loading the front and becoming active do not touch each other. -/
theorem State.loadFront_modBus_active (s : State) :
    (s.loadFront.modBus fun b => { b with state := .active }) =
      (s.modBus fun b => { b with state := .active }).loadFront := by
  unfold State.loadFront
  split <;> simp_all [State.modBus]

section
variable {s : State} (h : ∃ e ∈ s.bus.tx, e.loaded = true)
include h

theorem State.frameSent_later (hj : s.bus.state ≠ .joining) : s.frameSent = s.txDropped.loadFront :=
  (if_pos (List.any_eq_true.mpr h)).trans (if_neg hj)

theorem State.frameSent_first (hj : s.bus.state = .joining) :
    s.frameSent = s.activated.loadFront.evalWant :=
  ((if_pos (List.any_eq_true.mpr h)).trans (if_pos hj)).trans
    (congrArg State.evalWant s.txDropped.loadFront_modBus_active)

theorem State.frameNotSent_loaded :
    s.frameNotSent = (s.modBus fun b => { b with tx := txReturned b.tx }).loadFront :=
  if_pos (List.any_eq_true.mpr h)

end

theorem txReturned_waits (tx : List TxEntry) : ∀ e ∈ txReturned tx, e.loaded = false := by
  intro e he
  obtain ⟨_, _, rfl⟩ := List.mem_map.mp he
  rfl

/-- With no newer STANDING every frame goes back to its place. -/
theorem frames_txReturned {tx : List TxEntry} (h : ¬ ∃ e ∈ tx, e.loaded = false ∧ e.frame.code = 48) :
    (txReturned tx).map (·.frame) = tx.map (·.frame) := by
  have hnone : tx.any (·.waitingStanding) = false := by
    simpa [TxEntry.waitingStanding_eq] using h
  simp [txReturned, hnone]

/-- With a newer STANDING waiting, the loaded one is dropped (R121). -/
theorem frames_txReturned_newer {tx : List TxEntry}
    (h : ∃ e ∈ tx, e.loaded = false ∧ e.frame.code = 48) :
    (txReturned tx).map (·.frame) =
      (tx.filter fun e => !(e.loaded && e.frame.code == 48)).map (·.frame) := by
  have hsome : tx.any (·.waitingStanding) = true := by
    simpa [TxEntry.waitingStanding_eq] using h
  simp [txReturned, hsome]

/-- The conditions of R154 as the model evaluates them. -/
theorem wantConditions_iff (s : State) : WantConditions s ↔ s.wantConditions = true := by
  simp [WantConditions, State.wantConditions, Option.isSome_iff_ne_none, and_assoc]

/-- The conditions of R154 do not ask which frame is loaded. -/
theorem wantConditions_loadFront (s : State) : WantConditions s.loadFront ↔ WantConditions s := by
  obtain ⟨hsame, _⟩ := State.wantConditions_congr (s := s.loadFront) (t := s) (by simp) (by simp)
    (by simp) (by simp)
  rw [wantConditions_iff, wantConditions_iff, hsame]

/-- Where the conditions of R154 do not hold nothing is evaluated. -/
theorem State.evalWant_idle {s : State} (h : ¬ WantConditions s) : s.evalWant = s :=
  if_neg (mt (wantConditions_iff s).mpr h)

theorem State.evalWant_eq (s : State) :
    s.evalWant =
      { s with bus := s.evalWant.bus, share := s.evalWant.share, port := s.evalWant.port } := by
  have h := s.evalWant_frame
  cases ht : s.evalWant
  simp_all

/-- The evaluation of R154 does not depend on which frame of the queue is loaded. -/
theorem State.loadFront_evalWant_wantsEvaluated {m : State} (hs : m.busSends = true) :
    WantsEvaluated m m.loadFront.evalWant := by
  obtain ⟨hshare, hkept, hbus, _⟩ := m.loadFront.evalWant_wantsEvaluated
  refine ⟨?_, m.loadFront_kept.trans hkept, ?_, fun h => absurd hs (by simp [h])⟩
  · rw [hshare]
    exact State.evalWant_share_congr (by simp) (by simp) (by simp) (by simp)
  · rw [hbus, m.loadFront_eq]

theorem State.loadFront_evalWant_within (m : State) :
    RaisedWithin m.port m.loadFront.evalWant.port neighbourAlarms := by
  have hport : m.loadFront.port = m.port := by simp
  exact hport ▸ m.loadFront.evalWant_within (by decide) (by decide)

/-- Becoming ACTIVE moves the Bus Interface, the Sharing Unit and alarms only. -/
theorem State.activated_evalWant_eq (s : State) :
    s.activated.loadFront.evalWant =
      { s with
        bus := s.activated.loadFront.evalWant.bus, share := s.activated.loadFront.evalWant.share
        port := s.activated.loadFront.evalWant.port } := by
  rw [State.evalWant_eq, s.activated.loadFront_eq]
  rfl

/-! ## The statement -/

/-- The end of a step leaves what the state before the outputs are driven is. -/
theorem State.driveOutputs_of_eq {u v : State} (h : u = v) :
    u.driveOutputs = { v with outs := u.driveOutputs.outs } :=
  congrArg (fun w : State => { w with outs := u.driveOutputs.outs }) h

/-- A frame other than a STANDING handed over, by whether it can be sent, stands in the queue and has room. -/
theorem State.enqueue_outcome (s : State) (f : BusFrame) :
    (s.busSends = false ∨ Queued s f → s.enqueue f = s) ∧
    (s.busSends = true → ¬ Queued s f →
      (s.bus.tx.length < 16 → TransmitQueueLaw s →
        s.enqueue f = { s with bus := { s.bus with
          tx := (s.bus.tx.filter fun e => e.frame.code ≤ f.code) ++
            ⟨f, false⟩ :: s.bus.tx.filter fun e => f.code < e.frame.code } }) ∧
      (16 ≤ s.bus.tx.length → s.enqueue f = { s with port := (s.enqueue f).port } ∧
        RaisedWithin s.port (s.enqueue f).port [.txOverflow] ∧
        (s.enqueue f).alarm .txOverflow = true)) := by
  refine ⟨State.enqueue_idle, fun hs hq => ⟨fun hl hlaw => ?_, fun hl => ?_⟩⟩
  · obtain ⟨_, _, hsorted, _⟩ := hlaw
    rw [State.enqueue_room hs hq hl, State.modBus, txInsert_eq_of_sorted f hsorted]
  · rw [State.enqueue_full hs hq hl]
    exact ⟨rfl, s.raise_within (by simp), s.alarm_raise_self _⟩

/-- Settles O44: the queue in order gives a frame its place; a report with a frame loaded leaves none loaded before
the front is loaded again. -/
theorem loadedFrameLeavesOrReturns : Obligations.LoadedFrameLeavesOrReturns := by
  intro s f newer frontLoaded
  refine ⟨fun _ => ?_, ⟨_, rfl, fun hnone => ?_, fun hload => ⟨fun hj => ?_, fun hj => ?_⟩⟩,
    ⟨_, rfl, fun hnone => ?_, fun hload => ?_⟩⟩
  · obtain ⟨hidle, hadded⟩ := s.enqueue_outcome f
    have hport : (s.handOver f).port = (s.enqueue f).port := by simp [State.handOver]
    exact ⟨hidle, hadded, s.handOver_handedOver f, hport, State.loadFront_frames _⟩
  · exact State.driveOutputs_of_eq (State.frameSent_unloaded hnone)
  · rw [State.frameSent_later hload hj]
    exact ⟨State.driveOutputs_of_eq (State.loadFront_eq _), State.loadFront_frames _,
      State.loadFront_frontLoaded s.txDropped_waits⟩
  · rw [State.frameSent_first hload hj]
    refine ⟨State.driveOutputs_of_eq s.activated_evalWant_eq,
      State.loadFront_evalWant_wantsEvaluated (m := s.activated) rfl, ?_, fun hno => ?_⟩
    · exact s.activated.loadFront_evalWant_within
    · rw [State.evalWant_idle (mt (wantConditions_loadFront s.activated).mp hno)]
      exact ⟨State.loadFront_frames _, State.loadFront_frontLoaded s.txDropped_waits⟩
  · exact State.driveOutputs_of_eq (State.frameNotSent_unloaded hnone)
  · rw [State.frameNotSent_loaded hload]
    exact ⟨State.driveOutputs_of_eq (State.loadFront_eq _),
      fun hold => (State.loadFront_frames _).trans (frames_txReturned hold),
      fun hnew => (State.loadFront_frames _).trans (frames_txReturned_newer hnew),
      State.loadFront_frontLoaded (txReturned_waits _)⟩

end Sys2Proof.Machine
end

section
/-! SUPPORT. A STANDING queued and what goes with it, and the station leaving the bus and joining it again (R117,
R118, R121 to R123, R161). -/

namespace Sys2Proof.Machine

/-! ## Frames handed over one after another -/

/-- From s to t no frame leaves the queue, TX_OVERFLOW is not taken back, and the station sends as before. -/
structure QueueGrows (s t : State) : Prop where
  queued : ∀ f, Queued s f → Queued t f
  overflow : s.alarm .txOverflow = true → t.alarm .txOverflow = true
  sends : t.busSends = s.busSends

theorem QueueGrows.refl (s : State) : QueueGrows s s := ⟨fun _ h => h, id, rfl⟩

theorem QueueGrows.trans {s t u : State} (h : QueueGrows s t) (k : QueueGrows t u) : QueueGrows s u :=
  ⟨fun f hf => k.queued f (h.queued f hf), fun ha => k.overflow (h.overflow ha), k.sends.trans h.sends⟩

/-- A frame that stands in the queue, or was discarded with TX_OVERFLOW, is not missed later. -/
theorem QueueGrows.handed {s t : State} (h : QueueGrows s t) {f : BusFrame}
    (hf : Queued s f ∨ s.alarm .txOverflow = true) : Queued t f ∨ t.alarm .txOverflow = true :=
  hf.imp (h.queued f) h.overflow

theorem State.enqueue_grows (s : State) (f : BusFrame) : QueueGrows s (s.enqueue f) :=
  ⟨s.queued_enqueue_of f, (s.enqueue_within f (List.mem_singleton.mpr rfl)).alarm,
    State.busSends_congr (by simp)⟩

theorem State.loadFront_grows (s : State) : QueueGrows s s.loadFront :=
  ⟨fun f => (s.queued_loadFront f).mpr, fun h => by simpa [State.alarm] using h,
    State.busSends_congr (by simp)⟩

theorem State.handOver_grows (s : State) (f : BusFrame) : QueueGrows s (s.handOver f) :=
  (s.enqueue_grows f).trans (s.enqueue f).loadFront_grows

/-- From s to t frames are handed over and nothing else happens (R121). -/
structure OnlyHandsOver (s t : State) : Prop where
  rest : t = { s with bus := { s.bus with tx := t.bus.tx }, port := t.port }
  kept : QueueKept s t
  grows : QueueGrows s t
  raised : RaisedWithin s.port t.port [.txOverflow]

theorem OnlyHandsOver.refl (s : State) : OnlyHandsOver s s := ⟨rfl, .refl s, .refl s, .refl _ _⟩

theorem OnlyHandsOver.trans {s t u : State} (h : OnlyHandsOver s t) (k : OnlyHandsOver t u) :
    OnlyHandsOver s u :=
  ⟨by rw [k.rest, h.rest], h.kept.trans k.kept, h.grows.trans k.grows, h.raised.trans k.raised⟩

theorem State.handOver_onlyHandsOver (s : State) (f : BusFrame) : OnlyHandsOver s (s.handOver f) :=
  ⟨s.handOver_eq f, s.handOver_kept f, s.handOver_grows f,
    s.handOver_within f (List.mem_singleton.mpr rfl)⟩

/-- A frame handed over while the station sends stands in the queue, or TX_OVERFLOW is up (R121). -/
theorem State.enqueue_handed {s : State} (h : s.busSends = true) (f : BusFrame) :
    Queued (s.enqueue f) f ∨ (s.enqueue f).alarm .txOverflow = true := by
  obtain ⟨_, hqueued, _, _⟩ := s.handOver_handedOver f
  refine (hqueued h).imp (State.queued_loadFront _ f).mp fun ha => ?_
  simpa [State.alarm, State.handOver] using ha

/-- What each of the steps does, and what composes, the steps of a list do together. -/
theorem foldl_rel {α : Type} {R : State → State → Prop} {step : State → α → State} (hrefl : ∀ s, R s s)
    (htrans : ∀ {s t u}, R s t → R t u → R s u) (hstep : ∀ u a, R u (step u a)) (l : List α)
    (s : State) : R s (l.foldl step s) := by
  induction l generalizing s with
  | nil => exact hrefl s
  | cons a l ih => exact htrans (hstep s a) (ih _)

/-- Every element of a list for which a step hands a frame over has its frame queued at the end, or a full queue has
discarded one. -/
theorem foldl_handed {α : Type} {step : State → α → State} {wanted : α → Prop} {frame : α → BusFrame}
    (hgrows : ∀ u a, QueueGrows u (step u a))
    (hhand : ∀ u a, wanted a → u.busSends = true →
      Queued (step u a) (frame a) ∨ (step u a).alarm .txOverflow = true)
    {l : List α} {s : State} (hs : s.busSends = true) {a : α} (ha : a ∈ l) (hw : wanted a) :
    Queued (l.foldl step s) (frame a) ∨ (l.foldl step s).alarm .txOverflow = true := by
  induction l generalizing s with
  | nil => nomatch ha
  | cons b l ih =>
    rcases List.mem_cons.mp ha with rfl | ha
    · exact (foldl_rel .refl .trans hgrows l _).handed (hhand s a hw hs)
    · exact ih ((hgrows s b).sends.trans hs) ha

theorem State.resendSettled_grows (s : State) : QueueGrows s s.resendSettled :=
  foldl_rel .refl .trans (fun u (t : Transfer) => u.enqueue_grows t.settled) s.share.outRecord s

theorem State.resendSettled_handed {s : State} (hs : s.busSends = true) {u : Transfer}
    (hu : u ∈ s.share.outRecord) :
    Queued s.resendSettled u.settled ∨ s.resendSettled.alarm .txOverflow = true :=
  foldl_handed (step := fun u (t : Transfer) => u.enqueue t.settled) (frame := Transfer.settled)
    (wanted := fun _ => True) (fun u t => u.enqueue_grows t.settled)
    (fun _ t _ h => State.enqueue_handed h t.settled) hs hu trivial

/-! ## A STANDING put into the queue -/

/-- What was announced has changed when a flag differs, or the surplus lies on the other side of 100 (R123). -/
theorem State.standingChanged_iff (s : State) :
    s.standingChanged = true ↔
      s.bus.announcedFlags ≠ s.standingFlags ∨
      (s.bus.announcedSurplus < 100 ∧ 100 ≤ s.surplus) ∨
      (100 ≤ s.bus.announcedSurplus ∧ s.surplus < 100) := by
  unfold State.standingChanged
  rw [Bool.or_eq_true, bne_iff_ne, bne_iff_ne, ne_comm, ne_eq (decide _), decide_eq_decide]
  refine or_congr_right ?_
  omega

/-- The four flags differ when one of them does. -/
theorem StandingFlags.ne_iff (a b : StandingFlags) :
    a ≠ b ↔ a.wanting ≠ b.wanting ∨ a.contactDue ≠ b.contactDue ∨
      a.contactLocked ≠ b.contactLocked ∨ a.exhausted ≠ b.exhausted := by
  cases a
  cases b
  simp only [ne_eq, StandingFlags.mk.injEq]
  tauto

/-- The queue with a STANDING in it, and the figures it announces (R123). -/
def State.announcing (s : State) (tx : List TxEntry) : State :=
  { s with bus := { s.bus with
    tx := tx, announcedSurplus := min s.surplus 16777215, announcedFlags := s.standingFlags } }

theorem State.placeStanding_replaces {s : State} (h : ∃ e ∈ s.bus.tx, e.waitingStanding = true) :
    s.placeStanding = s.announcing
      (s.bus.tx.map fun e => if e.waitingStanding then ⟨s.formStanding, false⟩ else e) :=
  if_pos (List.any_eq_true.mpr h)

section
variable {s : State} (h : ∀ e ∈ s.bus.tx, ¬ e.waitingStanding = true)
include h

theorem State.placeStanding_joins (hl : s.bus.tx.length < 16) :
    s.placeStanding = s.announcing (txInsert s.formStanding s.bus.tx) :=
  (if_neg (by simpa using h)).trans (if_pos hl)

theorem State.placeStanding_full (hl : 16 ≤ s.bus.tx.length) :
    s.placeStanding = s.raise .txOverflow :=
  (if_neg (by simpa using h)).trans (if_neg (by omega))

end

/-! ## A STANDING handed over -/

/-- A STANDING handed over by a station that sends, before the front is loaded (R123, R161). -/
theorem State.handStanding_sends {s : State} (h : s.busSends = true) :
    s.handStanding =
      ((s.placeStanding.modBus fun b =>
        { b with standingTimer := some s.intervalMs }).resendSettled).loadFront :=
  if_pos h

theorem State.handStanding_eq (s : State) :
    s.handStanding = { s with bus := s.handStanding.bus, port := s.handStanding.port } := by
  have h := s.handStanding_frame
  cases ht : s.handStanding
  simp_all

section
variable {s : State} (h : s.busSends = true)
include h

/-- The queue after a STANDING is handed over grows from the one it was put into. -/
theorem State.handStanding_grows : QueueGrows s.placeStanding s.handStanding := by
  rw [State.handStanding_sends h]
  refine .trans ?_ ((State.resendSettled_grows _).trans (State.loadFront_grows _))
  exact ⟨fun _ hf => hf, id, rfl⟩

/-- In the Bus Interface only the queue, the timer and what was announced move. -/
theorem State.handStanding_bus :
    s.handStanding.bus = { s.bus with
      tx := s.handStanding.bus.tx, standingTimer := some s.intervalMs
      announcedSurplus := s.placeStanding.bus.announcedSurplus
      announcedFlags := s.placeStanding.bus.announcedFlags } := by
  have hframe := s.handStanding_frame
  have htimer : s.handStanding.bus.standingTimer = some s.intervalMs := by
    simp [State.handStanding_sends h]
  have hfigure : s.handStanding.bus.announcedSurplus = s.placeStanding.bus.announcedSurplus := by
    simp [State.handStanding_sends h]
  have hflags : s.handStanding.bus.announcedFlags = s.placeStanding.bus.announcedFlags := by
    simp [State.handStanding_sends h]
  cases ht : s.handStanding.bus
  simp_all

/-- Every SETTLED of the out record is handed over again with a STANDING (R161). -/
theorem State.handStanding_settled {u : Transfer} (hu : u ∈ s.share.outRecord) :
    Queued s.handStanding u.settled ∨ s.handStanding.alarm .txOverflow = true := by
  rw [State.handStanding_sends h]
  refine (State.loadFront_grows _).handed (State.resendSettled_handed ?_ (by simpa using hu))
  exact (State.busSends_congr (by simp)).trans h

end

/-! ## The bus left and joined again -/

/-- A station enters JOINING with an empty queue: the STANDING has its place, and its figures are announced. -/
def State.joinedEmpty (s : State) : State :=
  s.modBus fun b => { b with state := .joining, controllerOn := false }

section
variable {s : State} (h : s.bus.tx = [])
include h

theorem State.joinedEmpty_placeStanding :
    s.joinedEmpty.placeStanding = s.joinedEmpty.announcing [⟨s.joinedEmpty.formStanding, false⟩] := by
  have htx : s.joinedEmpty.bus.tx = [] := h
  rw [State.placeStanding_joins (by simp [htx]) (by simp [htx]), htx]
  rfl

theorem State.enterJoining_queued : Queued (s.enterJoining false) s.formStanding := by
  have hplaced : Queued s.joinedEmpty.placeStanding s.formStanding := by
    rw [State.joinedEmpty_placeStanding h]
    exact ⟨_, List.mem_singleton.mpr rfl, rfl⟩
  exact (State.handStanding_grows (s := s.joinedEmpty) rfl).queued _ hplaced

theorem State.enterJoining_bus :
    (s.enterJoining false).bus = { s.bus with
      state := .joining, controllerOn := false, tx := (s.enterJoining false).bus.tx
      standingTimer := some s.intervalMs, announcedSurplus := min s.surplus 16777215
      announcedFlags := s.standingFlags } := by
  have hbus := State.handStanding_bus (s := s.joinedEmpty) rfl
  rw [State.joinedEmpty_placeStanding h] at hbus
  exact hbus

end

theorem State.busOff_silent {s : State} (h : s.busSends = false) : s.busOff = s :=
  if_neg (by simp [h])

theorem State.busOff_sends {s : State} (h : s.busSends = true) :
    s.busOff = (s.modBus fun b =>
      { b with state := .off, controllerOn := false, tx := [], standingTimer := none }).raise .busOff :=
  if_pos h

theorem State.controllerReturn_silent {s : State} (h : s.busSends = false) : s.controllerReturn = s :=
  if_neg (by simp [h])

/-- The station with its controller on the bus again. -/
def State.controllerBack (s : State) : State := s.modBus fun b => { b with controllerOn := true }

theorem State.controllerReturn_sends {s : State} (h : s.busSends = true) :
    s.controllerReturn = s.controllerBack.loadFront :=
  if_pos h

/-- With the controller on the bus, a queue that is not empty has a frame loaded after its front is. -/
theorem State.loadFront_loaded {s : State} (hon : s.bus.controllerOn = true) (h : s.bus.tx ≠ []) :
    ∃ e ∈ s.loadFront.bus.tx, e.loaded = true := by
  by_cases hnone : ∀ e ∈ s.bus.tx, e.loaded = false
  · obtain ⟨d, rest, htx⟩ := List.exists_cons_of_ne_nil h
    rw [State.loadFront_tx hnone, if_pos hon, htx]
    exact ⟨⟨d.frame, true⟩, List.mem_cons_self, rfl⟩
  · push Not at hnone
    obtain ⟨e, he, hl⟩ := hnone
    have hl : e.loaded = true := by simpa using hl
    obtain ⟨_, hkept⟩ := s.loadFront_kept
    exact ⟨e, hkept e he hl, hl⟩

/-- The STANDING timer runs out with none running. -/
theorem State.standingExpiry_stopped {s : State} (h : s.bus.standingTimer = none) :
    s.standingExpiry = s :=
  if_neg (by simp [h])

/-- The station with its STANDING timer run out. -/
def State.timerOut (s : State) : State := s.modBus fun b => { b with standingTimer := none }

theorem State.standingExpiry_running {s : State} (h : s.bus.standingTimer ≠ none) :
    s.standingExpiry = s.timerOut.handStanding :=
  if_pos (Option.isSome_iff_ne_none.mpr h)

/-- BUS RESTART is taken in OFF alone (R118). -/
theorem exec_busRestart_busy {s : State} (hc : s.configured = true) (h : s.bus.state ≠ .off) :
    ∃ t, exec (.busRestart []) s = .next t ∧ Refused s t .busy :=
  s.runCommand_bodyRefused busRestartBody (State.portCheck_pass (by decide) hc nofun) (if_neg h)
    (by decide)

theorem exec_busRestart_off {s : State} (hc : s.configured = true) (h : s.bus.state = .off) :
    exec (.busRestart []) s =
      .next (((s.shiftOut.enterJoining false).replied okResponse).driveOutputs) :=
  s.runCommand_ok busRestartBody (State.portCheck_pass (by decide) hc nofun) (if_pos h)

/-- What BUS RESTART makes of a station in OFF (R118, R161). -/
theorem busRestart_joins {s t : State} (ht : t = (s.shiftOut.enterJoining false).replied okResponse)
    (htx : s.bus.tx = []) :
    t = { s with bus := t.bus, port := t.port } ∧
    t.bus = { s.bus with
      state := .joining, controllerOn := false, tx := t.bus.tx
      standingTimer := some s.intervalMs, announcedSurplus := min s.surplus 16777215
      announcedFlags := s.standingFlags } ∧
    Queued t s.formStanding ∧
    (∀ u ∈ s.share.outRecord, Queued t u.settled ∨ t.alarm .txOverflow = true) ∧
    RaisedWithin (s.portAfter ⟨.ok, []⟩) t.port [.txOverflow] := by
  subst ht
  refine ⟨?_, State.enterJoining_bus (s := s.shiftOut) htx,
    State.enterJoining_queued (s := s.shiftOut) htx, fun u hu => ?_, ?_⟩
  · exact congrArg (State.replied · okResponse) s.shiftOut.joinedEmpty.handStanding_eq
  · exact State.handStanding_settled (s := s.shiftOut.joinedEmpty) rfl hu
  · exact (s.shiftOut.joinedEmpty.handStanding_within (List.mem_singleton.mpr rfl)).answered okResponse

/-- What the STANDING timer's expiry makes of a station that sends (R123, R161). -/
theorem standingExpiry_sends {s t : State} (ht : t = s.timerOut.handStanding) (hs : s.busSends = true) :
    t = { s with bus := t.bus, port := t.port } ∧
    t.bus = { s.bus with
      tx := t.bus.tx, standingTimer := some s.intervalMs, announcedSurplus := t.bus.announcedSurplus
      announcedFlags := t.bus.announcedFlags } ∧
    QueueKept s t ∧
    (Queued t s.formStanding ∧ t.bus.announcedSurplus = min s.surplus 16777215 ∧
        t.bus.announcedFlags = s.standingFlags ∨
      t.alarm .txOverflow = true) ∧
    (∀ u ∈ s.share.outRecord, Queued t u.settled ∨ t.alarm .txOverflow = true) ∧
    RaisedWithin s.port t.port [.txOverflow] := by
  have hout : s.timerOut.busSends = true := hs
  subst ht
  refine ⟨s.timerOut.handStanding_eq, ?_, s.timerOut.handStanding_kept,
    s.timerOut.handStanding_queued hout, fun u hu => State.handStanding_settled hout hu,
    s.timerOut.handStanding_within (List.mem_singleton.mpr rfl)⟩
  rw [State.handStanding_bus hout]
  rfl

/-- Settles O45: the figures as the model names them; a STANDING placed by whether one waits and there is room; the
queue of a station that joins is empty, so that its STANDING has room. -/
theorem busLeavesAndJoinsAgain : Obligations.BusLeavesAndJoinsAgain := by
  intro s figure flags standing waits placed announced
  have hfigure : figure = min s.surplus 16777215 := by
    simp only [figure, State.surplus]
    cases s.acct.mode <;> rfl
  have hflags : flags = s.standingFlags := rfl
  have hstanding : standing = s.formStanding := by
    simp only [standing, hfigure]
    rfl
  have hwaits : waits = TxEntry.waitingStanding := funext fun e => e.waitingStanding_eq.symm
  have hannounced : announced = s.announcing := by
    funext tx
    simp only [announced, hfigure]
    rfl
  clear_value figure flags standing waits announced
  subst hfigure hflags hstanding hwaits hannounced
  refine ⟨?_, State.placeStanding_replaces, fun hnone => ⟨fun hl hlaw => ?_, fun hl => ?_⟩,
    ⟨_, rfl, fun hs => ?_, fun hs => ?_⟩, ⟨_, rfl, fun hs => ?_, fun hs => ?_⟩, fun hc => ?_,
    ⟨_, rfl, fun hstop => ?_, fun hrun hs => ?_⟩⟩
  · rw [State.standingChanged_iff, StandingFlags.ne_iff]
    simp only [or_assoc]
    have habove : 100 ≤ s.surplus ↔ 100 ≤ min s.surplus 16777215 := by omega
    have hbelow : s.surplus < 100 ↔ min s.surplus 16777215 < 100 := by omega
    rw [habove, hbelow]
  · obtain ⟨_, _, hsorted, _⟩ := hlaw
    exact (State.placeStanding_joins hnone hl).trans
      (congrArg s.announcing (txInsert_eq_of_sorted s.formStanding hsorted))
  · rw [show placed = s.raise .txOverflow from State.placeStanding_full hnone hl]
    exact ⟨rfl, s.raise_within (by simp), s.alarm_raise_self _⟩
  · exact State.driveOutputs_of_eq (State.busOff_silent hs)
  · rw [State.busOff_sends hs]
    exact ⟨rfl, State.raise_within _ (by simp), State.alarm_raise_self _ _⟩
  · exact State.driveOutputs_of_eq (State.controllerReturn_silent hs)
  · rw [State.controllerReturn_sends hs]
    exact ⟨State.driveOutputs_of_eq (State.loadFront_eq _), State.loadFront_frames _,
      State.loadFront_loaded (s := s.controllerBack) rfl⟩
  · by_cases hoff : s.bus.state = .off
    · refine ⟨_, exec_busRestart_off hc hoff, fun hon => absurd hoff hon, fun _ htx => ?_⟩
      obtain ⟨heq, hrest⟩ := busRestart_joins rfl htx
      exact ⟨State.driveOutputs_of_eq heq, hrest⟩
    · obtain ⟨t, ht, hbusy⟩ := exec_busRestart_busy hc hoff
      exact ⟨t, ht, fun _ => hbusy, fun h => absurd h hoff⟩
  · exact State.driveOutputs_of_eq (State.standingExpiry_stopped hstop)
  · rw [State.standingExpiry_running hrun]
    obtain ⟨heq, hrest⟩ := standingExpiry_sends rfl hs
    exact ⟨State.driveOutputs_of_eq heq, hrest⟩

end Sys2Proof.Machine
end

section
/-! SUPPORT. The frames received: the checks of R114 and R119, the peer table (R124 to R126), the answers to a
REEL-ASK (R138) and the end of an ask window (R137). -/

namespace Sys2Proof.Machine

/-! ## The checks of a frame -/

/-- Check 7 of R114 asks for a "to" field that is a station number. -/
theorem destOk_eq (g : BusFrame) : destOk g = g.dest?.all stationOk := by
  unfold destOk stationOk
  simp only [Bool.decide_and]

/-- A frame to be ignored that passes the checks on form and sender either spells no frame or fails check 7. -/
theorem destOk_of_ignorable {f : RxFrame} (hext : f.extended = false) (hrem : f.remote = false)
    (hlow : f.ident.toNat % 32 ≠ 0) (hhigh : f.ident.toNat % 32 ≠ 31) (h : f.ignorable = true)
    {g : BusFrame} (hg : busFrameOf (f.ident.toNat / 32) f.data = some g) : destOk g = false := by
  obtain ⟨hcode, hdata⟩ := code_data_of_busFrameOf hg
  rw [destOk_eq]
  unfold RxFrame.ignorable at h
  rw [← hcode, ← hdata, hext, hrem] at h
  cases g with
  | reelNote kind => cases kind <;> simp [BusFrame.code, BusFrame.data, hlow, hhigh] at h
  | want | reelAsk | standing => simp [BusFrame.code, BusFrame.data, hlow, hhigh] at h
  | _ => simpa [BusFrame.code, BusFrame.data, BusFrame.dest?, hlow, hhigh] using h

/-- A part that does not receive does nothing with a frame. -/
theorem State.receiveRaw_deaf {s : State} (h : s.busReceives = false) (f : RxFrame) :
    s.receiveRaw f = s :=
  if_neg (by simp [h])

theorem State.busReceives_of_sends {s : State} (h : s.busSends = true) : s.busReceives = true := by
  simp [State.busReceives, h]

section
variable {s : State} (h : s.busReceives = true)
include h

/-- A frame to be ignored, which is not one of the own number, is counted and nothing else. -/
theorem State.receiveRaw_ignored {f : RxFrame} (hi : f.ignorable = true)
    (hown : f.extended = true ∨ f.remote = true ∨ s.station ≠ some (f.ident.toNat % 32)) :
    s.receiveRaw f = s.ignoreFrame := by
  refine (if_pos h).trans ?_
  by_cases hform : f.extended = true ∨ f.remote = true
  · exact if_pos hform
  · rw [if_neg hform]
    have hstation := (or_assoc.mpr hown).resolve_left hform
    simp only [not_or, Bool.not_eq_true] at hform
    obtain ⟨hext, hrem⟩ := hform
    by_cases hsender : f.ident.toNat % 32 = 0 ∨ f.ident.toNat % 32 = 31
    · exact if_pos hsender
    · obtain ⟨hlow, hhigh⟩ := not_or.mp hsender
      refine (if_neg hsender).trans ((if_neg hstation).trans ?_)
      cases hg : busFrameOf (f.ident.toNat / 32) f.data with
      | none => rfl
      | some g => exact if_neg (by simp [destOk_of_ignorable hext hrem hlow hhigh hi hg])

/-- A frame with the own number as sender reaches the duplicate check (R119). -/
theorem State.receiveRaw_duplicate {f : RxFrame} (hext : f.extended = false) (hrem : f.remote = false)
    (hlow : 1 ≤ f.ident.toNat % 32) (hhigh : f.ident.toNat % 32 ≤ 30)
    (hown : s.station = some (f.ident.toNat % 32)) : s.receiveRaw f = s.duplicateFrame := by
  unfold State.receiveRaw State.receiveFrom
  rw [if_pos h, if_neg (by simp [hext, hrem]), if_neg (by omega), if_pos hown]

end

/-- What the own number as a sender does to the Bus Interface (R119). -/
theorem State.duplicateFrame_eq (s : State) :
    s.duplicateFrame =
      { s with
        bus := if s.busSends then { s.bus with state := .silenced, tx := [], standingTimer := none }
          else s.bus
        port := s.duplicateFrame.port } := by
  unfold State.duplicateFrame
  split <;> rfl

theorem State.duplicateFrame_raises (s : State) :
    RaisedWithin s.port s.duplicateFrame.port [.duplicateStation] ∧
      s.duplicateFrame.alarm .duplicateStation = true := by
  refine ⟨?_, State.alarm_raise_self _ _⟩
  unfold State.duplicateFrame
  split <;> exact State.raise_within _ (List.mem_singleton.mpr rfl)

/-- A frame that passes the checks is accepted. -/
theorem State.receive_heard {s : State} {x : BitVec 5} (h : Heard s x) {f : BusFrame}
    (hd : destOk f = true) : s.receive x f = s.acceptFrame x.toNat f := by
  obtain ⟨hreceives, hlow, hhigh, hother⟩ := h
  unfold State.receive State.receiveFrom
  rw [if_pos hreceives, if_neg (by omega), if_neg hother]
  exact if_pos hd

/-! ## The peer table -/

/-- The entry of a station, changed, stands in the table. -/
theorem exists_mem_updatePeer (x : Nat) (f : Peer → Peer) (l : List Peer) :
    ∃ q, q.station = x ∧ f q ∈ updatePeer x f l := by
  induction l with
  | nil => exact ⟨Peer.new x, rfl, List.mem_singleton.mpr rfl⟩
  | cons d rest ih =>
    unfold updatePeer
    split
    · next hx => exact ⟨d, hx, List.mem_cons_self⟩
    · split
      · exact ⟨Peer.new x, rfl, List.mem_cons_self⟩
      · obtain ⟨q, hq, hmem⟩ := ih
        exact ⟨q, hq, List.mem_cons_of_mem _ hmem⟩

/-- The entries of other stations stay. -/
theorem mem_updatePeer_of_ne {x : Nat} (f : Peer → Peer) {l : List Peer} {p : Peer} (hp : p ∈ l)
    (hne : p.station ≠ x) : p ∈ updatePeer x f l := by
  induction l with
  | nil => nomatch hp
  | cons d rest ih =>
    unfold updatePeer
    split
    · next hx =>
      rcases List.mem_cons.mp hp with rfl | hp
      · exact absurd hx hne
      · exact List.mem_cons_of_mem _ hp
    · split
      · exact List.mem_cons_of_mem _ hp
      · rcases List.mem_cons.mp hp with rfl | hp
        · exact List.mem_cons_self
        · exact List.mem_cons_of_mem _ (ih hp)

/-- Two changes of one station's entry are one. -/
theorem updatePeer_updatePeer (x : Nat) (f g : Peer → Peer) (hf : ∀ p, (f p).station = p.station)
    (l : List Peer) : updatePeer x g (updatePeer x f l) = updatePeer x (g ∘ f) l := by
  have hnew : (f (Peer.new x)).station = x := hf _
  induction l with
  | nil => simp [updatePeer, hnew]
  | cons d rest ih =>
    by_cases hx : d.station = x
    · simp [updatePeer, hf, hx]
    · by_cases hlt : x < d.station
      · simp [updatePeer, hnew, hx, hlt]
      · simp [updatePeer, hx, hlt, ih]

/-- An entry after a STANDING of its station (R124). -/
def Peer.announced (surplus day : Nat) (flags : StandingFlags) (p : Peer) : Peer :=
  ⟨p.station, surplus, day, flags, 0, .live⟩

/-- The peers after a STANDING: the sender's entry carries its figures, LIVE with age 0. -/
theorem State.hearPeer_notePeer_peers (s : State) (x surplus day : Nat) (flags : StandingFlags) :
    ((s.hearPeer x).notePeer x surplus day flags).bus.peers =
      updatePeer x (Peer.announced surplus day flags) s.bus.peers :=
  updatePeer_updatePeer x _ _ (by intro p; rfl) s.bus.peers

/-! ## STANDING heard -/

/-- One ASK of an unresolved transfer of a giver (R126). -/
def State.askOne (giver : Nat) (s : State) (t : Transfer) : State :=
  if t.station = giver then s.sendAsk giver t.wantNo t.pledgeNo else s

theorem State.askOne_onlyHandsOver (s : State) (giver : Nat) (t : Transfer) :
    OnlyHandsOver s (s.askOne giver t) := by
  unfold State.askOne
  split
  · exact s.handOver_onlyHandsOver _
  · exact .refl s

theorem State.askUnresolved_onlyHandsOver (s : State) (giver : Nat) :
    OnlyHandsOver s (s.askUnresolved giver) :=
  foldl_rel (step := State.askOne giver) .refl .trans (fun u t => u.askOne_onlyHandsOver giver t) _ s

/-- Each unresolved transfer of the giver is asked for (R126). -/
theorem State.askUnresolved_handed {s : State} (hs : s.busSends = true) {u : Transfer}
    (hu : u ∈ s.share.unresolved) :
    Queued (s.askUnresolved u.station)
        (.ask (BitVec.ofNat 8 u.station) (BitVec.ofNat 16 u.wantNo) (BitVec.ofNat 16 u.pledgeNo)) ∨
      (s.askUnresolved u.station).alarm .txOverflow = true := by
  refine foldl_handed (step := State.askOne u.station) (wanted := fun t => t.station = u.station)
    (frame := fun t => .ask (BitVec.ofNat 8 u.station) (BitVec.ofNat 16 t.wantNo)
      (BitVec.ofNat 16 t.pledgeNo))
    (fun v t => (v.askOne_onlyHandsOver u.station t).grows) (fun v t ht hv => ?_) hs hu rfl
  obtain ⟨_, hqueued, _, _⟩ := v.handOver_handedOver (.ask (BitVec.ofNat 8 u.station)
    (BitVec.ofNat 16 t.wantNo) (BitVec.ofNat 16 t.pledgeNo))
  rw [State.askOne, if_pos ht]
  exact hqueued hv

/-- The state on which the unresolved transfers of the sender of a STANDING are asked for: its entry written, the days
compared (R124, R126). -/
def State.standingNoted (s : State) (x surplus day : Nat) (flags : StandingFlags) : State :=
  ((s.hearPeer x).notePeer x surplus day flags).raiseIf (day != s.rates.day) .daySkew

theorem State.receive_standing {s : State} {x : BitVec 5} (h : Heard s x) (surplus : BitVec 24)
    (day : BitVec 16) (flags : Byte) :
    s.receive x (.standing surplus day flags) =
      (s.standingNoted x.toNat surplus.toNat day.toNat (.ofByte flags)).askUnresolved x.toNat :=
  State.receive_heard h rfl

section
variable (s : State) (x surplus day : Nat) (flags : StandingFlags)

theorem State.standingNoted_eq :
    s.standingNoted x surplus day flags =
      { s with
        bus := { s.bus with peers := updatePeer x (Peer.announced surplus day flags) s.bus.peers }
        port := (s.standingNoted x surplus day flags).port } := by
  rw [← State.hearPeer_notePeer_peers]
  unfold State.standingNoted State.raiseIf
  split <;> rfl

theorem State.standingNoted_within :
    RaisedWithin s.port (s.standingNoted x surplus day flags).port [.daySkew, .txOverflow] :=
  State.raiseIf_within ((s.hearPeer x).notePeer x surplus day flags) _ (by simp)

theorem State.standingNoted_daySkew :
    (s.standingNoted x surplus day flags).alarm .daySkew =
      (s.alarm .daySkew || decide (day ≠ s.rates.day)) := by
  have hdays : (day != s.rates.day) = decide (day ≠ s.rates.day) := by
    rw [Bool.eq_iff_iff]
    simp
  rw [State.standingNoted, State.alarm_raiseIf, hdays]
  simp [State.alarm]

end

/-- What a STANDING heard leaves and writes (R124, R126). -/
theorem standingHeard_outcome {s m t : State} {x : Nat} {surplus day : Nat} {flags : StandingFlags}
    (hm : m = s.standingNoted x surplus day flags) (ht : OnlyHandsOver m t) :
    t = { s with bus := t.bus, port := t.port } ∧
    t.bus = { s.bus with tx := t.bus.tx, peers := t.bus.peers } ∧ QueueKept s t ∧
    (⟨x, surplus, day, flags, 0, .live⟩ ∈ t.bus.peers) ∧
    (∀ p ∈ s.bus.peers, p.station ≠ x → p ∈ t.bus.peers) ∧
    (∀ p ∈ t.bus.peers, p.station ≠ x → p ∈ s.bus.peers) ∧
    t.alarm .daySkew = (s.alarm .daySkew || decide (day ≠ s.rates.day)) ∧
    RaisedWithin s.port t.port [.daySkew, .txOverflow] := by
  have hnoted := s.standingNoted_eq x surplus day flags
  rw [← hm] at hnoted
  have hbus : t.bus = { s.bus with
      tx := t.bus.tx, peers := updatePeer x (Peer.announced surplus day flags) s.bus.peers } := by
    rw [ht.rest, hnoted]
  have hpeers : t.bus.peers = updatePeer x (Peer.announced surplus day flags) s.bus.peers := by
    rw [hbus]
  refine ⟨?_, ?_, ?_, ?_, ?_, ?_, ?_, ?_⟩
  · rw [ht.rest, hnoted]
  · rw [hpeers, hbus]
  · exact (QueueKept.of_tx (by rw [hnoted])).trans ht.kept
  · obtain ⟨q, rfl, hq⟩ := exists_mem_updatePeer x (Peer.announced surplus day flags) s.bus.peers
    exact hpeers ▸ hq
  · intro p hp hne
    exact hpeers ▸ mem_updatePeer_of_ne _ hp hne
  · intro p hp hne
    refine (mem_updatePeer (hpeers ▸ hp)).resolve_left ?_
    rintro ⟨q, hq, rfl⟩
    exact hne hq
  · rw [ht.raised.alarm_of_not_mem (by decide), hm, s.standingNoted_daySkew]
  · have hraised := s.standingNoted_within x surplus day flags
    exact (hm ▸ hraised).trans (ht.raised.mono (by simp))

/-- Settles O43: each frame by the check that stops it, a STANDING by the entry it writes. -/
theorem framesAreCheckedAndPeersKept : Obligations.FramesAreCheckedAndPeersKept := by
  intro s f x surplus day flags
  refine ⟨⟨_, rfl, fun hdeaf => ?_, fun hreceives hi hown => ?_⟩,
    ⟨_, rfl, fun hext hrem hlow hhigh hown => ?_⟩, fun hheard => ⟨_, rfl, ?_⟩, ⟨_, rfl, rfl⟩⟩
  · exact State.driveOutputs_of_eq (State.receiveRaw_deaf hdeaf f)
  · rw [State.receiveRaw_ignored hreceives hi hown]
    rfl
  · cases hreceives : s.busReceives with
    | true =>
      rw [State.receiveRaw_duplicate hreceives hext hrem hlow hhigh hown]
      exact ⟨fun _ => s.duplicateFrame_raises, State.driveOutputs_of_eq s.duplicateFrame_eq, nofun⟩
    | false =>
      have hsends : s.busSends = false := by
        simpa using mt State.busReceives_of_sends (by simp [hreceives])
      rw [State.receiveRaw_deaf hreceives, hsends]
      exact ⟨nofun, rfl, fun _ => rfl⟩
  · rw [State.receive_standing hheard]
    obtain ⟨heq, hbus, hkept, hentry, hothers, honly, hskew, hraised⟩ := standingHeard_outcome rfl
      (State.askUnresolved_onlyHandsOver
        (s.standingNoted x.toNat surplus.toNat day.toNat (.ofByte flags)) x.toNat)
    refine ⟨State.driveOutputs_of_eq heq, hbus, hkept, hentry, hothers, honly, hskew, hraised, ?_⟩
    intro u hu hstation hsends
    have hnoted := s.standingNoted_eq x.toNat surplus.toNat day.toNat (.ofByte flags)
    rw [← hstation] at hnoted ⊢
    refine State.askUnresolved_handed ?_ (by rwa [hnoted])
    rw [hnoted]
    exact hsends

end Sys2Proof.Machine
end

section
/-! SUPPORT. A REEL-ASK heard is answered from the stock table or the released-reel list (R138), and an ask window
ends unverified (R137). -/

namespace Sys2Proof.Machine

/-! ## The entry of a reel -/

/-- The entry of a reel is found. -/
theorem State.reel_eq {s : State} (h : StockLaw s) {r : Reel} (hr : r ∈ s.stock.table) :
    s.reel r.id = some r := by
  obtain ⟨_, hnodup, _⟩ := h
  exact find?_eq_of_unique hr (by simp) fun q hq he =>
    List.inj_on_of_nodup_map hnodup hq hr (by simpa using he)

/-- What a search for the entry of a reel has found. -/
theorem State.reel_some {s : State} {id : Nat} {r : Reel} (h : s.reel id = some r) :
    r ∈ s.stock.table ∧ r.id = id :=
  ⟨List.mem_of_find?_eq_some h, by simpa using List.find?_some h⟩

/-! ## The answer -/

theorem State.answerAsk_mounted {s : State} {r : Reel} (h : s.reel r.id = some r)
    (hm : r.state = .mounted) : s.answerAsk r.id = s.handOver (noteOf .mounted r) := by
  unfold State.answerAsk
  rw [h]
  simp only [hm]
  rfl

theorem State.answerAsk_released {s : State} {r : Reel} (h : s.reel r.id = some r)
    (hm : r.state = .released) : s.answerAsk r.id = s.handOver (noteOf .released r) := by
  unfold State.answerAsk
  rw [h]
  simp only [hm]
  rfl

/-- Without an entry, or beside an EMPTY one, the released-reel list answers (assumption log 42). -/
theorem State.answerAsk_unheld {s : State} {id : Nat}
    (h : ∀ r ∈ s.stock.table, r.id = id → r.state = .empty) : s.answerAsk id = s.answerFromList id := by
  unfold State.answerAsk
  cases hfound : s.reel id with
  | none => rfl
  | some r =>
    obtain ⟨hr, hid⟩ := State.reel_some hfound
    simp only [h r hr hid]

theorem State.answerFromList_note {s : State} {id : Nat} {n : ReleasedNote}
    (h : s.stock.released.find? (·.reelId == id) = some n) :
    s.answerFromList id = s.handOver (.reelNote .released (BitVec.ofNat 32 id)
      (BitVec.ofNat 16 n.remaining) (BitVec.ofNat 16 n.denomination)) := by
  unfold State.answerFromList State.releasedNote
  rw [h]

theorem State.answerFromList_silent {s : State} {id : Nat}
    (h : ∀ n ∈ s.stock.released, n.reelId ≠ id) : s.answerFromList id = s := by
  have hnone : s.stock.released.find? (·.reelId == id) = none := by simpa using h
  unfold State.answerFromList State.releasedNote
  rw [hnone]

/-- An answer hands a frame over or does nothing. -/
theorem State.answerAsk_onlyHandsOver (s : State) (id : Nat) : OnlyHandsOver s (s.answerAsk id) := by
  have hlist : OnlyHandsOver s (s.answerFromList id) := by
    unfold State.answerFromList
    split
    · exact .refl s
    · exact s.handOver_onlyHandsOver _
  unfold State.answerAsk
  split
  · exact hlist
  · split
    · exact s.handOver_onlyHandsOver _
    · exact s.handOver_onlyHandsOver _
    · exact hlist

/-! ## REEL-ASK heard -/

theorem State.receive_reelAsk_silenced {s : State} {x : BitVec 5} (h : Heard s x)
    (hs : s.bus.state = .silenced) (id : BitVec 32) : s.receive x (.reelAsk id) = s.hearPeer x.toNat :=
  (State.receive_heard h rfl).trans (if_pos hs)

theorem State.receive_reelAsk_sending {s : State} {x : BitVec 5} (h : Heard s x)
    (hs : s.bus.state ≠ .silenced) (id : BitVec 32) :
    s.receive x (.reelAsk id) = (s.hearPeer x.toNat).answerAsk id.toNat :=
  (State.receive_heard h rfl).trans (if_neg hs)

/-- A REEL-ASK heard makes the sender's entry LIVE and hands at most frames over. -/
theorem State.receive_reelAsk_onlyHandsOver {s : State} {x : BitVec 5} (h : Heard s x)
    (id : BitVec 32) : OnlyHandsOver (s.hearPeer x.toNat) (s.receive x (.reelAsk id)) := by
  by_cases hs : s.bus.state = .silenced
  · rw [State.receive_reelAsk_silenced h hs]
    exact .refl _
  · rw [State.receive_reelAsk_sending h hs]
    exact State.answerAsk_onlyHandsOver _ _

/-- Frames handed over once the sender's entry is LIVE are all that is heard of the frame. -/
theorem OnlyHandsOver.heard {s t : State} {x : BitVec 5} (h : OnlyHandsOver (s.hearPeer x.toNat) t) :
    t = { s with bus := t.bus, port := t.port } ∧ BusHeard s t x ∧
      RaisedWithin s.port t.port [.txOverflow] := by
  refine ⟨?_, ⟨?_, h.kept⟩, h.raised⟩
  · rw [h.rest]
    rfl
  · rw [h.rest]
    rfl

theorem HeardWhole.heard {s : State} {x : BitVec 5} (h : HeardWhole s x) :
    Heard s x ∧ s.bus.state ≠ .silenced := by
  obtain ⟨hsends, hrest⟩ := h
  refine ⟨⟨State.busReceives_of_sends hsends, hrest⟩, fun hs => ?_⟩
  simp [State.busSends, hs] at hsends

/-- The rows of R138 for a station that sends. -/
theorem reelAsk_answered {s t : State} {x : BitVec 5} {id : BitVec 32} (hlaw : StockLaw s)
    (ht : t = (s.hearPeer x.toNat).answerAsk id.toNat) :
    (∀ r ∈ s.stock.table, r.id = id.toNat →
      (r.state = .mounted → HandedOver s t (noteOf .mounted r)) ∧
      (r.state = .released → HandedOver s t (noteOf .released r))) ∧
    ((∀ r ∈ s.stock.table, r.id = id.toNat → r.state = .empty) →
      (∀ n ∈ s.stock.released.find? (·.reelId == id.toNat),
        HandedOver s t (.reelNote .released id (BitVec.ofNat 16 n.remaining)
          (BitVec.ofNat 16 n.denomination))) ∧
      ((∀ n ∈ s.stock.released, n.reelId ≠ id.toNat) → t.port = s.port ∧ t.bus.tx = s.bus.tx)) := by
  have hover (f : BusFrame) : HandedOver s ((s.hearPeer x.toNat).handOver f) f :=
    (s.hearPeer x.toNat).handOver_handedOver f
  subst ht
  refine ⟨fun r hr hid => ?_, fun hunheld => ?_⟩
  · have hfound : (s.hearPeer x.toNat).reel r.id = some r := State.reel_eq (s := s) hlaw hr
    rw [← hid]
    refine ⟨fun hm => ?_, fun hm => ?_⟩
    · rw [State.answerAsk_mounted hfound hm]
      exact hover _
    · rw [State.answerAsk_released hfound hm]
      exact hover _
  · rw [State.answerAsk_unheld (s := s.hearPeer x.toNat) hunheld]
    refine ⟨fun n hn => ?_, fun hnone => ?_⟩
    · rw [State.answerFromList_note (s := s.hearPeer x.toNat) hn, BitVec.ofNat_toNat, BitVec.setWidth_eq]
      exact hover _
    · rw [State.answerFromList_silent (s := s.hearPeer x.toNat) hnone]
      exact ⟨rfl, rfl⟩

/-! ## The end of an ask window -/

/-- The entry of a reel is ASKING with its window running. -/
def Reel.windowRuns (r : Reel) : Prop := r.check = .asking ∧ r.askWindow ≠ none

theorem State.askWindowExpiry_idle {s : State} {id : Nat}
    (h : ∀ r ∈ s.stock.table, r.id = id → ¬ r.windowRuns) : s.askWindowExpiry id = s := by
  unfold State.askWindowExpiry
  cases hfound : s.reel id with
  | none => rfl
  | some r =>
    obtain ⟨hr, hid⟩ := State.reel_some hfound
    refine if_neg ?_
    rw [Option.isSome_iff_ne_none]
    exact h r hr hid

/-- The entry of a reel unverified at the newest place, its window ended (R130, R137). -/
def State.windowEnded (s : State) (r : Reel) : State :=
  s.renewReel { r with check := .unverified, askWindow := none }

theorem State.askWindowExpiry_expired {s : State} {r : Reel} (h : s.reel r.id = some r)
    (hr : r.windowRuns) :
    s.askWindowExpiry r.id = (s.windowEnded r).handOver (noteOf .mounted r) := by
  unfold State.askWindowExpiry
  rw [h]
  exact if_pos (hr.imp_right Option.isSome_iff_ne_none.mpr)

/-- Settles O41: the answer by the entry the stock law makes the only one of its reel, or by the list; and the entry
whose window has ended at the newest place. -/
theorem reelAskIsAnsweredAndTheWindowEnds : Obligations.ReelAskIsAnsweredAndTheWindowEnds := by
  intro s x id hlaw
  refine ⟨fun hheard => ⟨_, rfl, ?_⟩, ⟨_, rfl, fun hidle => ?_, fun r hr hid hasking hwindow => ?_⟩⟩
  · obtain ⟨heq, hbus, hraised⟩ := (State.receive_reelAsk_onlyHandsOver hheard id).heard
    refine ⟨State.driveOutputs_of_eq heq, hbus, hraised, fun hs => ?_, fun hwhole => ?_⟩
    · rw [State.receive_reelAsk_silenced hheard hs]
      exact ⟨rfl, rfl⟩
    · obtain ⟨_, hs⟩ := hwhole.heard
      rw [State.receive_reelAsk_sending hheard hs]
      exact reelAsk_answered (t := (s.hearPeer x.toNat).answerAsk id.toNat) hlaw rfl
  · refine State.driveOutputs_of_eq (State.askWindowExpiry_idle fun r hr hid hruns => ?_)
    obtain ⟨hasking, hwindow⟩ := hruns
    exact hwindow (hidle r hr hid hasking)
  · rw [← hid, State.askWindowExpiry_expired (State.reel_eq hlaw hr) ⟨hasking, hwindow⟩]
    exact ⟨State.driveOutputs_of_eq (State.handOver_eq _ _),
      (s.windowEnded r).handOver_handedOver (noteOf .mounted r),
      (s.windowEnded r).handOver_within _ (List.mem_singleton.mpr rfl)⟩

end Sys2Proof.Machine
end

section
/-! SUPPORT. The law of the stock table (R129, R141): what each change of the table leaves of it (R130). -/

namespace Sys2Proof.Machine

/-! ## The law of a table -/

/-- What R129 and R141 ask of one entry. -/
structure Reel.Lawful (r : Reel) : Prop where
  remaining : r.remaining ≤ r.countAtLoad
  released : r.state = .released → r.feeder = none
  mounted : r.state = .mounted → r.feeder ≠ none

/-- Two entries do not name one feeder. -/
def Reel.Apart (q r : Reel) : Prop := q.feeder = none ∨ q.feeder ≠ r.feeder

theorem Reel.Apart.symm {q r : Reel} (h : q.Apart r) : r.Apart q := by
  by_cases hr : r.feeder = none
  · exact .inl hr
  · exact .inr fun e => h.elim (fun hq => hr (e.trans hq)) fun hne => hne e.symm

/-- The law of the stock table, for the table alone. -/
structure TableLaw (l : List Reel) : Prop where
  length : l.length ≤ 12
  ids : (l.map (·.id)).Nodup
  entries : ∀ r ∈ l, r.Lawful
  feeders : l.Pairwise Reel.Apart

theorem stockLaw_iff {s : State} : StockLaw s ↔ TableLaw s.stock.table :=
  ⟨fun ⟨hlen, hids, hrem, hrel, hmnt, hf⟩ =>
      ⟨hlen, hids, fun r hr => ⟨hrem r hr, hrel r hr, hmnt r hr⟩, hf⟩,
    fun ⟨hlen, hids, he, hf⟩ => ⟨hlen, hids, fun r hr => (he r hr).remaining,
      fun r hr => (he r hr).released, fun r hr => (he r hr).mounted, hf⟩⟩

theorem TableLaw.sublist {l m : List Reel} (h : TableLaw l) (hm : m.Sublist l) : TableLaw m :=
  ⟨hm.length_le.trans h.length, h.ids.sublist (hm.map _), fun r hr => h.entries r (hm.subset hr),
    h.feeders.sublist hm⟩

/-- The law does not look at the change order. -/
theorem TableLaw.perm {l m : List Reel} (h : TableLaw l) (hm : m.Perm l) : TableLaw m :=
  ⟨hm.length_eq.trans_le h.length, (hm.map _).nodup_iff.mpr h.ids,
    fun r hr => h.entries r (hm.mem_iff.mp hr),
    (hm.pairwise_iff fun {_ _} hqr => hqr.symm).mpr h.feeders⟩

/-- Entries changed in their places, none of which comes to name a feeder it did not name. -/
theorem TableLaw.map {l : List Reel} (h : TableLaw l) {g : Reel → Reel} (hid : ∀ r, (g r).id = r.id)
    (hf : ∀ r ∈ l, (g r).feeder = none ∨ (g r).feeder = r.feeder) (he : ∀ r ∈ l, (g r).Lawful) :
    TableLaw (l.map g) := by
  refine ⟨(List.length_map g).trans_le h.length, ?_, List.forall_mem_map.mpr he,
    List.pairwise_map.mpr ?_⟩
  · rw [List.map_map]
    exact (List.map_congr_left fun r _ => hid r) ▸ h.ids
  · refine h.feeders.imp_of_mem fun {q r} hq hr hqr => ?_
    unfold Reel.Apart at *
    rcases hf q hq with e | e <;> rcases hf r hr with d | d <;> rw [e]
    · exact .inl rfl
    · exact .inl rfl
    · rw [d]; exact (eq_or_ne q.feeder none)
    · rw [d]; exact hqr

/-- An entry of a new reel at the newest place of a table with room. -/
theorem TableLaw.append {l : List Reel} (h : TableLaw l) {r : Reel} (hlen : l.length < 12)
    (hid : ∀ q ∈ l, q.id ≠ r.id) (he : r.Lawful) (hf : ∀ q ∈ l, r.Apart q) : TableLaw (l ++ [r]) := by
  refine ⟨by simpa using hlen, ?_, fun q hq => ?_, ?_⟩
  · rw [List.map_append]
    refine h.ids.append (List.nodup_singleton _) fun n hn hr => ?_
    obtain ⟨q, hq, rfl⟩ := List.mem_map.mp hn
    exact hid q hq (List.mem_singleton.mp hr)
  · rcases List.mem_append.mp hq with hq | hq
    · exact h.entries q hq
    · exact List.mem_singleton.mp hq ▸ he
  · refine List.pairwise_append.mpr ⟨h.feeders, List.pairwise_singleton _ _, fun q hq d hd => ?_⟩
    exact List.mem_singleton.mp hd ▸ (hf q hq).symm

/-- Two entries that name one feeder are the same entry. -/
theorem TableLaw.feeder_unique {l : List Reel} (h : TableLaw l) {q r : Reel} {f : Feeder} (hq : q ∈ l)
    (hr : r ∈ l) (hqf : q.feeder = some f) (hrf : r.feeder = some f) : q = r := by
  have : Std.Symm Reel.Apart := ⟨fun _ _ => Reel.Apart.symm⟩
  by_contra hne
  rcases h.feeders.forall hq hr hne with hn | hn
  · exact nomatch hqf.symm.trans hn
  · exact hn (hqf.trans hrf.symm)

/-! ## The changes of R130 -/

/-- The table with the entry of one reel put in place of another of it. -/
def replaceReel (l : List Reel) (r : Reel) : List Reel := l.map fun q => if q.id = r.id then r else q

/-- In a table with one entry for each reel, taking an entry out and putting it newest moves nothing else. -/
theorem perm_putNewest {l : List Reel} (hids : (l.map (·.id)).Nodup) {r old : Reel} (ho : old ∈ l)
    (hid : old.id = r.id) : (putNewest l r).Perm (replaceReel l r) := by
  obtain ⟨pre, post, rfl⟩ := List.append_of_mem ho
  have hother : ∀ q ∈ pre ++ post, q.id ≠ r.id := fun q hq e => by
    rw [(List.perm_middle.map _).nodup_iff, List.map_cons, List.nodup_cons] at hids
    exact hids.1 (List.mem_map.mpr ⟨q, hq, e.trans hid.symm⟩)
  have hkept : (pre ++ post).filter (fun q => q.id != r.id) = pre ++ post :=
    List.filter_eq_self.mpr fun q hq => by simpa using hother q hq
  have hsame : replaceReel (pre ++ post) r = pre ++ post :=
    (List.map_congr_left fun q hq => if_neg (hother q hq)).trans (List.map_id _)
  have hput : putNewest (pre ++ old :: post) r = pre ++ post ++ [r] := by
    rw [← hkept]
    simp [putNewest, hid]
  have hreplaced : (replaceReel (pre ++ old :: post) r).Perm (r :: (pre ++ post)) := by
    rw [← hsame]
    simp only [replaceReel, List.map_append, List.map_cons, hid, if_true]
    exact List.perm_middle
  rw [hput]
  exact (List.perm_append_singleton _ _).trans hreplaced.symm

theorem TableLaw.replace {l : List Reel} (h : TableLaw l) {r old : Reel} (ho : old ∈ l)
    (hid : old.id = r.id) (hf : r.feeder = none ∨ r.feeder = old.feeder) (he : r.Lawful) :
    TableLaw (replaceReel l r) := by
  have hold : ∀ q ∈ l, q.id = r.id → q = old := fun q hq e =>
    List.inj_on_of_nodup_map h.ids hq ho (e.trans hid.symm)
  refine h.map (fun q => ?_) (fun q hq => ?_) fun q hq => ?_
  · split
    · next e => exact e.symm
    · rfl
  · split
    · next e => exact hold q hq e ▸ hf
    · exact .inr rfl
  · split
    · exact he
    · exact h.entries q hq

/-- An entry changed and taken to the newest place. -/
theorem TableLaw.renew {l : List Reel} (h : TableLaw l) {r old : Reel} (ho : old ∈ l)
    (hid : old.id = r.id) (hf : r.feeder = none ∨ r.feeder = old.feeder) (he : r.Lawful) :
    TableLaw (putNewest l r) :=
  (h.replace ho hid hf he).perm (perm_putNewest h.ids ho hid)

/-! ## A feeder free for a mount -/

/-- No reel is MOUNTED in a feeder. -/
def Unmounted (l : List Reel) (f : Feeder) : Prop := ∀ r ∈ l, r.state = .mounted → r.feeder ≠ some f

/-- An entry without the feeder it may name. -/
def Reel.leaving (f : Feeder) (r : Reel) : Reel := if r.feeder = some f then { r with feeder := none } else r

theorem Reel.leaving_other {f : Feeder} {r : Reel} (h : r.feeder ≠ some f) : r.leaving f = r := if_neg h

@[simp] theorem Reel.leaving_id (f : Feeder) (r : Reel) : (r.leaving f).id = r.id := by
  unfold Reel.leaving; split <;> rfl

theorem Reel.leaving_feeder (f : Feeder) (r : Reel) : (r.leaving f).feeder ≠ some f := by
  unfold Reel.leaving
  split
  · exact nofun
  · assumption

/-- An entry that names a feeder in which no reel is MOUNTED is EMPTY. -/
theorem TableLaw.empty_of_unmounted {l : List Reel} (h : TableLaw l) {f : Feeder} (hu : Unmounted l f)
    {r : Reel} (hr : r ∈ l) (hf : r.feeder = some f) : r.state = .empty := by
  cases hs : r.state with
  | mounted => exact absurd hf (hu r hr hs)
  | released => exact absurd ((h.entries r hr).released hs) (by simp [hf])
  | empty => rfl

/-- Clearing the feeder of an EMPTY entry leaves the entries as they are but for that feeder (R130, R133). -/
theorem perm_clearEmptyFeeder {l : List Reel} (h : TableLaw l) {f : Feeder} (hu : Unmounted l f) :
    (clearEmptyFeeder l f).Perm (l.map (·.leaving f)) := by
  unfold clearEmptyFeeder
  split
  · next hnone =>
    have hother : ∀ r ∈ l, r.feeder ≠ some f := fun r hr hf =>
      List.find?_eq_none.mp hnone r hr (by simp [h.empty_of_unmounted hu hr hf, hf])
    refine .of_eq (Eq.symm ?_)
    exact (List.map_congr_left fun r hr => Reel.leaving_other (hother r hr)).trans (List.map_id l)
  · next r hfound =>
    have hr := List.mem_of_find?_eq_some hfound
    have hf : r.feeder = some f := by
      have hp := List.find?_some hfound
      simp only [Bool.and_eq_true, beq_iff_eq] at hp
      exact hp.2
    refine (perm_putNewest h.ids (r := { r with feeder := none }) hr rfl).trans
      (.of_eq (List.map_congr_left fun q hq => ?_))
    by_cases he : q.id = r.id
    · obtain rfl := List.inj_on_of_nodup_map h.ids hq hr he
      simp [Reel.leaving, hf]
    · have hne : q.feeder ≠ some f := fun hqf => he (h.feeder_unique hq hr hqf hf ▸ rfl)
      simp [he, Reel.leaving_other hne]

theorem TableLaw.cleared {l : List Reel} (h : TableLaw l) {f : Feeder} (hu : Unmounted l f) :
    TableLaw (clearEmptyFeeder l f) := by
  refine (h.map (Reel.leaving_id f) (fun r _ => ?_) fun r hr => ?_).perm (perm_clearEmptyFeeder h hu)
  · unfold Reel.leaving
    split
    · exact .inl rfl
    · exact .inr rfl
  · unfold Reel.leaving
    split
    · next hf =>
      have hs := h.empty_of_unmounted hu hr hf
      exact ⟨(h.entries r hr).remaining, fun _ => rfl, fun hm => nomatch hs.symm.trans hm⟩
    · exact h.entries r hr

/-- Where the entries of a cleared table come from. -/
theorem mem_clearEmptyFeeder {l : List Reel} (h : TableLaw l) {f : Feeder} (hu : Unmounted l f)
    {q : Reel} : q ∈ clearEmptyFeeder l f ↔ ∃ r ∈ l, r.leaving f = q := by
  rw [(perm_clearEmptyFeeder h hu).mem_iff, List.mem_map]

/-! ## Room for a new entry -/

/-- Each feeder holds at most one reel, so that a full table has an entry to lose (R130). -/
theorem TableLaw.exists_unmounted {l : List Reel} (h : TableLaw l) (hfull : 12 ≤ l.length) :
    ∃ r ∈ l, r.state ≠ .mounted := by
  by_contra hall
  push Not at hall
  have hn : (l.map (·.feeder)).Nodup := List.pairwise_map.mpr (h.feeders.imp_of_mem fun hq _ hqr =>
    hqr.resolve_left ((h.entries _ hq).mounted (hall _ hq)))
  have hsub : l.map (·.feeder) ⊆ [none, some .a, some .b] := fun f _ => by
    rcases f with _ | _ | _ <;> simp
  have hle := (hn.subperm hsub).length_le
  simp only [List.length_map, List.length_cons, List.length_nil] at hle
  omega

theorem evict_sublist (l : List Reel) : (evict l).Sublist l := by
  unfold evict
  split
  · exact List.Sublist.refl _
  · exact List.eraseP_sublist

theorem TableLaw.length_evict {l : List Reel} (h : TableLaw l) : (evict l).length = min 11 l.length := by
  have hle := h.length
  unfold evict
  split
  · omega
  · next hfull =>
    obtain ⟨r, hr, hs⟩ := h.exists_unmounted (Nat.not_lt.mp hfull)
    rw [List.length_eraseP_of_mem hr (by simpa using hs)]
    omega

/-- The eviction takes at most the first entry that is not MOUNTED. -/
theorem mem_evict {l : List Reel} {q : Reel} (hq : q ∈ l)
    (hkept : l.length < 12 ∨ l.find? (·.state != .mounted) ≠ some q) : q ∈ evict l := by
  unfold evict
  split
  · exact hq
  · next hfull =>
    by_cases hp : q.state = .mounted
    · exact (List.mem_eraseP_of_neg (by simp [hp])).mpr hq
    · obtain ⟨r, pre, post, hpre, hr, rfl, herased⟩ :=
        List.exists_of_eraseP (p := fun r : Reel => r.state != .mounted) hq (by simpa using hp)
      rw [herased]
      have hne : q ≠ r := fun e => hkept.resolve_left hfull (by
        rw [List.find?_append, List.find?_eq_none.mpr hpre, e]
        simp [hr])
      simpa [hne] using hq

/-! ## A reel put into a free feeder -/

/-- An entry that names a feeder no other names. -/
theorem TableLaw.append_feeding {l : List Reel} (h : TableLaw l) {f : Feeder}
    (hfree : ∀ q ∈ l, q.feeder ≠ some f) {r : Reel} (hlen : l.length < 12) (hid : ∀ q ∈ l, q.id ≠ r.id)
    (he : r.Lawful) (hf : r.feeder = some f) : TableLaw (l ++ [r]) :=
  h.append hlen hid he fun q hq => .inr fun e => hfree q hq (e.symm.trans hf)

theorem clearEmptyFeeder_free {l : List Reel} (h : TableLaw l) {f : Feeder} (hu : Unmounted l f) :
    ∀ q ∈ clearEmptyFeeder l f, q.feeder ≠ some f := fun q hq => by
  obtain ⟨r, _, rfl⟩ := (mem_clearEmptyFeeder h hu).mp hq
  exact r.leaving_feeder f

/-- A new entry in a feeder (R130, R133). -/
theorem TableLaw.addReel {l : List Reel} (h : TableLaw l) {f : Feeder} (hu : Unmounted l f) {r : Reel}
    (hid : ∀ q ∈ l, q.id ≠ r.id) (he : r.Lawful) (hf : r.feeder = some f) :
    TableLaw (clearEmptyFeeder (evict l) f ++ [r]) := by
  have hev := h.sublist (evict_sublist l)
  have huev : Unmounted (evict l) f := fun q hq => hu q ((evict_sublist l).subset hq)
  refine (hev.cleared huev).append_feeding (clearEmptyFeeder_free hev huev) ?_ (fun q hq => ?_) he hf
  · rw [(perm_clearEmptyFeeder hev huev).length_eq, List.length_map, h.length_evict]
    omega
  · obtain ⟨d, hd, rfl⟩ := (mem_clearEmptyFeeder hev huev).mp hq
    rw [Reel.leaving_id]
    exact hid d ((evict_sublist l).subset hd)

/-- The entry of a reel held already, put into a feeder (R134). -/
theorem TableLaw.refeed {l : List Reel} (h : TableLaw l) {f : Feeder} (hu : Unmounted l f) {old r : Reel}
    (ho : old ∈ l) (hid : old.id = r.id) (he : r.Lawful) (hf : r.feeder = some f) :
    TableLaw (putNewest (clearEmptyFeeder l f) r) := by
  have hc := h.cleared hu
  have hmem : old.leaving f ∈ clearEmptyFeeder l f := (mem_clearEmptyFeeder h hu).mpr ⟨old, ho, rfl⟩
  have hsub : ((clearEmptyFeeder l f).filter fun q => q.id != r.id).Sublist (clearEmptyFeeder l f) :=
    List.filter_sublist
  refine (hc.sublist hsub).append_feeding (fun q hq => ?_) ?_ (fun q hq => ?_) he hf
  · exact clearEmptyFeeder_free h hu q (hsub.subset hq)
  · exact (List.length_filter_lt_length_iff_exists.mpr ⟨_, hmem, by simp [hid]⟩).trans_le hc.length
  · simpa using List.of_mem_filter hq

end Sys2Proof.Machine
end

section
/-! SUPPORT. The law of the stock table (R129), kept by the Stock Unit's operations (R133 to R143, R147). -/

namespace Sys2Proof.Machine

/-! ## Mounts -/

/-- The entry of a reel remounted from its own RELEASED entry (R134). -/
def Reel.remounted (f : Feeder) (r : Reel) : Reel :=
  { r with
    state := .mounted, feeder := some f, check := .verified, countAtLoad := r.remaining, askWindow := none }

/-- The entry of a reel mounted from a peer's note (R135). -/
def ReleasedNote.reel (f : Feeder) (n : ReleasedNote) : Reel :=
  ⟨n.reelId, n.denomination, n.remaining, n.remaining, 0, .mounted, some f, .verified, none⟩

/-- The entry of a reel neither held nor noted (R136). -/
def askingReel (f : Feeder) (id denomination claimed : Nat) : Reel :=
  ⟨id, denomination, claimed, claimed, 0, .mounted, some f, .asking, some 1000⟩

theorem State.remount_stock (s : State) (f : Feeder) (r : Reel) (d c : Nat) :
    (s.remount f r d c).stock = { s.stock with
      table := putNewest (clearEmptyFeeder s.stock.table f) (r.remounted f)
      released := s.stock.released.filter fun n => n.reelId != r.id } := by
  simp [State.remount, State.renewReel, State.dropNote, Reel.remounted]

theorem State.mountFromNote_stock (s : State) (f : Feeder) (n : ReleasedNote) (d c : Nat) :
    (s.mountFromNote f n d c).stock = { s.stock with
      table := clearEmptyFeeder (evict s.stock.table) f ++ [n.reel f]
      released := s.stock.released.filter fun m => m.reelId != n.reelId } := by
  simp [State.mountFromNote, State.newReel, State.dropNote, ReleasedNote.reel]

theorem State.mountAsking_stock (s : State) (f : Feeder) (id d c : Nat) :
    (s.mountAsking f id d c).stock = { s.stock with
      table := clearEmptyFeeder (evict s.stock.table) f ++ [askingReel f id d c] } := by
  simp [State.mountAsking, State.newReel, askingReel]

/-- An entry MOUNTED in a feeder with as many stamps as it was loaded with. -/
theorem Reel.Lawful.of_mounted {r : Reel} (hr : r.remaining = r.countAtLoad) (hs : r.state = .mounted)
    {f : Feeder} (hf : r.feeder = some f) : r.Lawful :=
  ⟨hr.le, by simp [hs], by simp [hf]⟩

theorem State.unmounted_of_mountedIn {s : State} {f : Feeder} (h : (s.mountedIn f).isSome ≠ true) :
    Unmounted s.stock.table f := fun r hr hs hf => by
  have hnone : s.mountedIn f = none := by simpa using h
  exact List.find?_eq_none.mp hnone r hr (by simp [hs, hf])

/-- A mount that passes its checks finds its feeder free of a MOUNTED reel (R133). -/
theorem State.mountCheck_none {s : State} {f : Feeder} {id d c : Nat} (h : s.mountCheck f id d c = none) :
    Unmounted s.stock.table f := by
  unfold State.mountCheck at h
  split at h
  · exact nomatch h
  · split at h
    · exact nomatch h
    · exact State.unmounted_of_mountedIn ‹_›

/-- A search for the entry of a reel that has found none. -/
theorem State.reel_none {s : State} {id : Nat} (h : s.reel id = none) : ∀ r ∈ s.stock.table, r.id ≠ id :=
  fun r hr => by simpa using List.find?_eq_none.mp h r hr

/-- A search for the note of a reel that has found one. -/
theorem State.releasedNote_some {s : State} {id : Nat} {n : ReleasedNote} (h : s.releasedNote id = some n) :
    n.reelId = id := by simpa using List.find?_some h

theorem StockLaw.mount {s : State} (h : StockLaw s) {f : Feeder} (hu : Unmounted s.stock.table f)
    (id d c : Nat) : StockLaw (s.mount f id d c).1 := by
  rw [stockLaw_iff] at *
  unfold State.mount
  split
  · next r hfound =>
    obtain ⟨hr, -⟩ := State.reel_some hfound
    rw [State.remount_stock]
    exact h.refeed hu hr rfl (.of_mounted rfl rfl rfl) rfl
  · next hnone =>
    have hnew := State.reel_none hnone
    split
    · next n hn =>
      rw [State.mountFromNote_stock]
      exact h.addReel hu (by rwa [← State.releasedNote_some hn] at hnew) (.of_mounted rfl rfl rfl) rfl
    · rw [State.mountAsking_stock]
      exact h.addReel hu hnew (.of_mounted rfl rfl rfl) rfl

/-! ## Notes heard -/

/-- The released list once a note is listed, unless it holds a 0 (R131). -/
def State.noteListed (s : State) (n : ReleasedNote) : State :=
  if n.remaining ≠ 0 ∧ n.denomination ≠ 0 then
    s.modStock fun u => { u with released := addNote u.released n }
  else s

/-- What a MOUNTED or EMPTY note makes of the entry of its reel (R131, R137, R139, R140). -/
theorem State.claimHeard_cases (s : State) (id : Nat) :
    s.claimHeard id = s.dropNote id ∨ s.claimHeard id = (s.dropNote id).dropReel id ∨
    ∃ r ∈ s.stock.table, s.claimHeard id = (s.dropNote id).askConflict r ∨
      s.claimHeard id = (s.dropNote id).conflict r := by
  unfold State.claimHeard
  dsimp only
  split
  · exact .inl rfl
  · next r hfound =>
    obtain ⟨hr, -⟩ := State.reel_some (s := s) hfound
    split
    · split
      · exact .inr (.inr ⟨r, hr, .inl rfl⟩)
      · exact .inr (.inr ⟨r, hr, .inr rfl⟩)
    · exact .inr (.inl rfl)
    · exact .inl rfl

/-- What a RELEASED note does: listed, or a matter for the MOUNTED entry of its reel (R131, R137, R140). -/
theorem State.releaseHeard_cases (s : State) (x id n d : Nat) :
    s.releaseHeard x id n d = s.noteListed ⟨id, n, d, x⟩ ∨ s.releaseHeard x id n d = s ∨
    ∃ r ∈ s.stock.table, s.releaseHeard x id n d = s.adopt r n d ∨
      s.releaseHeard x id n d = s.conflict r := by
  unfold State.releaseHeard State.noteListed
  simp only [decide_eq_true_iff]
  split
  · exact .inl rfl
  · next r hfound =>
    obtain ⟨hr, -⟩ := State.reel_some hfound
    split
    · split
      · split
        · exact .inr (.inr ⟨r, hr, .inl rfl⟩)
        · exact .inr (.inl rfl)
      · split
        · exact .inr (.inl rfl)
        · exact .inr (.inr ⟨r, hr, .inr rfl⟩)
    · exact .inl rfl
    · exact .inl rfl

/-! ## One entry changed -/

/-- The law looks at the table alone. -/
theorem StockLaw.of_table {s t : State} (h : StockLaw s) (ht : t.stock.table = s.stock.table) :
    StockLaw t :=
  stockLaw_iff.mpr (ht ▸ stockLaw_iff.mp h)

theorem StockLaw.of_stock {s t : State} (h : StockLaw s) (ht : t.stock = s.stock) : StockLaw t :=
  h.of_table (congrArg (·.table) ht)

theorem Reel.emptied_lawful (r : Reel) : r.emptied.Lawful := ⟨Nat.zero_le _, nofun, nofun⟩

/-- An entry after a restart (R147). -/
def Reel.restarted (r : Reel) : Reel :=
  if r.check = .asking then { r with check := .unverified, askWindow := none } else r

/-- A restart puts the entries that were ASKING behind the others. -/
theorem StockUnit.perm_restart (u : StockUnit) : u.restart.table.Perm (u.table.map Reel.restarted) := by
  have hstays : (u.table.filter fun r => !(r.check == .asking)).map Reel.restarted =
      u.table.filter fun r => !(r.check == .asking) :=
    (List.map_congr_left fun r hr => if_neg (by simpa using List.of_mem_filter hr)).trans (List.map_id _)
  have hends : (u.table.filter fun r => r.check == .asking).map Reel.restarted =
      (u.table.filter fun r => r.check == .asking).map fun r =>
        { r with check := .unverified, askWindow := none } :=
    List.map_congr_left fun r hr => if_pos (by simpa using List.of_mem_filter hr)
  have hboth := (List.filter_append_perm (fun r : Reel => r.check == .asking) u.table).map Reel.restarted
  rw [List.map_append, hstays, hends] at hboth
  exact List.perm_append_comm.trans hboth

section
variable {s : State} (h : StockLaw s)
include h

theorem StockLaw.lawful {r : Reel} (hr : r ∈ s.stock.table) : r.Lawful :=
  (stockLaw_iff.mp h).entries r hr

theorem StockLaw.handOver (x : BusFrame) : StockLaw (s.handOver x) := h.of_stock (by simp)

theorem StockLaw.raise (a : Alarm) : StockLaw (s.raise a) := h.of_stock (by simp)

theorem StockLaw.raiseIf (c : Bool) (a : Alarm) : StockLaw (s.raiseIf c a) := h.of_stock (by simp)

theorem StockLaw.tellEmpty (r : Reel) : StockLaw (s.tellEmpty r) := h.of_stock (by simp)

theorem StockLaw.dropReel (id : Nat) : StockLaw (s.dropReel id) :=
  stockLaw_iff.mpr ((stockLaw_iff.mp h).sublist List.filter_sublist)

theorem StockLaw.renewReel {old r : Reel} (ho : old ∈ s.stock.table) (hid : old.id = r.id)
    (hf : r.feeder = none ∨ r.feeder = old.feeder) (he : r.Lawful) : StockLaw (s.renewReel r) :=
  stockLaw_iff.mpr ((stockLaw_iff.mp h).renew ho hid hf he)

theorem StockLaw.keepReel {old r : Reel} (ho : old ∈ s.stock.table) (hid : old.id = r.id)
    (hf : r.feeder = none ∨ r.feeder = old.feeder) (he : r.Lawful) : StockLaw (s.keepReel r) :=
  stockLaw_iff.mpr ((stockLaw_iff.mp h).replace ho hid hf he)

/-- A change of the check alone, taken to the newest place. -/
theorem StockLaw.recheck {r : Reel} (hr : r ∈ s.stock.table) (c : Check) (w : Option Nat) :
    StockLaw (s.renewReel { r with check := c, askWindow := w }) :=
  have hl := h.lawful hr
  h.renewReel hr rfl (.inr rfl) ⟨hl.remaining, hl.released, hl.mounted⟩

theorem StockLaw.conflict {r : Reel} (hr : r ∈ s.stock.table) : StockLaw (s.conflict r) := by
  unfold State.conflict
  split
  · exact h.raise _
  · exact (h.recheck hr .conflict r.askWindow).raise _

theorem StockLaw.askConflict {r : Reel} (hr : r ∈ s.stock.table) : StockLaw (s.askConflict r) :=
  ((h.recheck hr .conflict none).handOver _).raise _

theorem StockLaw.askExpired {r : Reel} (hr : r ∈ s.stock.table) : StockLaw (s.askExpired r) :=
  (h.recheck hr .unverified none).handOver _

/-- An adopted note's count is at least what is left of it (R137). -/
theorem StockLaw.adopt {r : Reel} (hr : r ∈ s.stock.table) (n d : Nat) : StockLaw (s.adopt r n d) := by
  have hl := h.lawful hr
  unfold State.adopt
  dsimp only
  split
  · refine StockLaw.tellEmpty (StockLaw.raiseIf ?_ _ _) _
    exact h.renewReel hr rfl (.inr rfl) (Reel.emptied_lawful _)
  · refine StockLaw.handOver (StockLaw.raiseIf ?_ _ _) _
    exact h.renewReel hr rfl (.inr rfl) ⟨Nat.sub_le _ _, hl.released, hl.mounted⟩

theorem StockLaw.noteListed (n : ReleasedNote) : StockLaw (s.noteListed n) := by
  unfold State.noteListed
  split
  · exact h.of_table rfl
  · exact h

theorem StockLaw.claimHeard (id : Nat) : StockLaw (s.claimHeard id) := by
  have hnote : StockLaw (s.dropNote id) := h.of_table rfl
  rcases s.claimHeard_cases id with he | he | ⟨r, hr, he | he⟩ <;> rw [he]
  · exact hnote
  · exact hnote.dropReel id
  · exact hnote.askConflict hr
  · exact hnote.conflict hr

theorem StockLaw.releaseHeard (x id n d : Nat) : StockLaw (s.releaseHeard x id n d) := by
  rcases s.releaseHeard_cases x id n d with he | he | ⟨r, hr, he | he⟩ <;> rw [he]
  · exact h.noteListed _
  · exact h
  · exact h.adopt hr n d
  · exact h.conflict hr

theorem StockLaw.unmount {r : Reel} (hr : r ∈ s.stock.table) : StockLaw (s.unmount r) := by
  have hl := h.lawful hr
  have hfree (hs : r.state ≠ .mounted) : StockLaw (s.renewReel { r with feeder := none }) :=
    h.renewReel hr rfl (.inl rfl) ⟨hl.remaining, fun _ => rfl, fun hm => absurd hm hs⟩
  unfold State.unmount
  split
  · next hs => exact hfree (by simp [hs])
  · next hs => exact hfree (by simp [hs])
  · split
    · exact h.dropReel _
    · refine StockLaw.handOver ?_ _
      exact h.renewReel hr rfl (.inl rfl) ⟨hl.remaining, fun _ => rfl, nofun⟩

theorem StockLaw.stampValued (f : Feeder) (d : Nat) : StockLaw (s.stampValued f d) :=
  h.of_table (by rw [State.stampValued, State.chargeStamp_eq]; rfl)

theorem StockLaw.countStamp {f : Feeder} {r : Reel} (hr : r ∈ s.stock.table) (hpos : 0 < r.remaining) :
    StockLaw (s.countStamp f r) := by
  have hl := h.lawful hr
  have hcharged := h.stampValued f r.denomination
  have hmem : r ∈ (s.stampValued f r.denomination).stock.table := by
    rw [State.stampValued, State.chargeStamp_eq]
    exact hr
  rcases s.countStamp_cases f hpos with ⟨-, he⟩ | ⟨-, he⟩ <;> rw [he]
  · exact hcharged.keepReel hmem rfl (.inr rfl)
      ⟨(Nat.sub_le _ _).trans hl.remaining, hl.released, hl.mounted⟩
  · refine StockLaw.tellEmpty ?_ _
    exact hcharged.renewReel hmem rfl (.inr rfl) (Reel.emptied_lawful _)

theorem StockLaw.issue (f : Feeder) : StockLaw (s.issue f) := by
  unfold State.issue
  split
  · next r hfound =>
    obtain ⟨hr, -⟩ := State.mountedIn_some hfound
    split
    · exact h.of_table rfl
    · next hpos => exact h.countStamp hr (Nat.pos_of_ne_zero hpos)
  · exact h.of_table rfl

theorem StockLaw.askWindowExpiry (id : Nat) : StockLaw (s.askWindowExpiry id) := by
  unfold State.askWindowExpiry
  split
  · exact h
  · next r hfound =>
    obtain ⟨hr, -⟩ := State.reel_some hfound
    split
    · exact h.askExpired hr
    · exact h

/-! ## The whole table -/

/-- The restart changes checks and the change order only (R147). -/
theorem StockLaw.restart : StockLaw s.restart := by
  have hl := stockLaw_iff.mp h
  rw [stockLaw_iff, State.restart_eq]
  refine (hl.map (fun r => ?_) (fun r _ => ?_) fun r hr => ?_).perm s.stock.perm_restart
  · unfold Reel.restarted
    split <;> rfl
  · unfold Reel.restarted
    split <;> exact .inr rfl
  · have hr := hl.entries r hr
    unfold Reel.restarted
    split
    · exact ⟨hr.remaining, hr.released, hr.mounted⟩
    · exact hr

theorem StockLaw.tick : StockLaw s.tick :=
  have hl := stockLaw_iff.mp h
  stockLaw_iff.mpr (hl.map (fun _ => rfl) (fun _ _ => .inr rfl) fun r hr =>
    have hr := hl.entries r hr
    ⟨hr.remaining, hr.released, hr.mounted⟩)

/-! ## Frames received -/

theorem StockLaw.noteHeard (x : Nat) (k : NoteKind) (id n d : Nat) : StockLaw (s.noteHeard x k id n d) := by
  unfold State.noteHeard
  split
  · exact h.claimHeard id
  · exact h.claimHeard id
  · exact h.releaseHeard x id n d

/-- Only a reel note reaches the stock table. -/
theorem StockLaw.acceptFrame (x : Nat) (f : BusFrame) : StockLaw (s.acceptFrame x f) := by
  have hheard : StockLaw (s.hearPeer x) := h.of_stock (by simp)
  unfold State.acceptFrame
  dsimp only
  split
  · exact hheard.of_stock (by simp)
  · exact hheard.noteHeard _ _ _ _ _
  · split
    · exact hheard
    · exact hheard.of_stock (by simp)

theorem StockLaw.receiveFrom (x : Nat) (f : Option BusFrame) : StockLaw (s.receiveFrom x f) := by
  have hignored : StockLaw s.ignoreFrame := h.of_stock (by simp)
  unfold State.receiveFrom
  split
  · exact hignored
  · split
    · exact h.of_stock (by simp)
    · split
      · exact hignored
      · split
        · exact h.acceptFrame _ _
        · exact hignored

theorem StockLaw.receive (x : BitVec 5) (f : BusFrame) : StockLaw (s.receive x f) := by
  unfold State.receive
  split
  · exact h.receiveFrom _ _
  · exact h

theorem StockLaw.receiveRaw (f : RxFrame) : StockLaw (s.receiveRaw f) := by
  unfold State.receiveRaw
  split
  · split
    · exact h.of_stock (by simp)
    · exact h.receiveFrom _ _
  · exact h

end

end Sys2Proof.Machine
end

section
/-! SUPPORT. The law of the stock table (R129): every step keeps it, settled. -/

namespace Sys2Proof.Machine

/-! ## Outcomes -/

/-- Every state that an outcome answers keeps the law of the stock table. -/
structure KeepsStock (s : State) (o : Host.Outcome State Fault Refusal) : Prop where
  next : ∀ t, o = .next t → StockLaw s → StockLaw t

theorem KeepsStock.of_done {s u : State} (h : StockLaw s → StockLaw u) : KeepsStock s (done u) :=
  ⟨fun _ ht hs => done_next.mp ht ▸ (h hs).of_table rfl⟩

/-- The Stock Unit is left alone. -/
theorem KeepsStock.of_same {s u : State} (h : u.stock = s.stock) : KeepsStock s (done u) :=
  .of_done fun hs => hs.of_stock h

/-- A command whose body keeps the law. -/
theorem KeepsStock.of_command {s : State} {o : Host.Outcome State Fault Refusal} {row : CommandRow}
    {p : List Byte} {body : State → State × Response} (ho : o = s.runCommand row p body)
    (hb : ∀ u, StockLaw u → StockLaw (body u).1) : KeepsStock s o := by
  rw [ho]
  unfold State.runCommand
  split
  · exact .of_same rfl
  · exact .of_done fun hs => (hb s.shiftOut (hs.of_table rfl)).of_stock (by simp)

/-- A command whose body leaves the Stock Unit alone. -/
theorem KeepsStock.of_bodySame {s : State} {o : Host.Outcome State Fault Refusal} {row : CommandRow}
    {p : List Byte} {body : State → State × Response} (ho : o = s.runCommand row p body)
    (hb : ∀ u, (body u).1.stock = u.stock) : KeepsStock s o :=
  .of_command ho fun u hu => hu.of_stock (hb u)

theorem State.readParts_stock (s : State) (read : PartsOf) (k : Nat) (a : List Byte) :
    (s.readParts read k a).stock = s.stock := by
  unfold State.readParts
  dsimp only
  (repeat' split) <;> rfl

theorem KeepsStock.of_read {s : State} {o : Host.Outcome State Fault Refusal} {row : CommandRow}
    {p : List Byte} {read : PartsOf} {a : List Byte} (ho : o = s.runRead row p read a) :
    KeepsStock s o := by
  rw [ho]
  unfold State.runRead
  split
  · exact .of_same rfl
  · exact .of_same (State.readParts_stock _ _ _ _)

/-! ## Bodies that leave the Stock Unit alone -/

section
variable (p : List Byte) (s : State)

theorem State.takeSettings_stock (c : Settings) : (s.takeSettings c).stock = s.stock := by
  unfold State.takeSettings
  dsimp only
  split <;> simp

theorem configureBody_stock : (configureBody p s).1.stock = s.stock := by
  unfold configureBody
  dsimp only
  split
  · rfl
  · split
    · rfl
    · exact s.takeSettings_stock _

theorem setDayBody_stock : (setDayBody p s).1.stock = s.stock := by
  unfold setDayBody
  dsimp only
  (repeat' split) <;> simp

theorem writePendingRateBody_stock : (writePendingRateBody p s).1.stock = s.stock := by
  unfold writePendingRateBody
  dsimp only
  (repeat' split) <;> rfl

theorem setEffectiveDayBody_stock : (setEffectiveDayBody p s).1.stock = s.stock := by
  unfold setEffectiveDayBody
  split <;> rfl

theorem writeGrantBody_stock : (writeGrantBody p s).1.stock = s.stock := by
  unfold writeGrantBody
  dsimp only
  (repeat' split) <;> simp

theorem closePeriodBody_stock : (closePeriodBody s).1.stock = s.stock := by
  unfold closePeriodBody
  split <;> rfl

theorem openSlotBody_stock : (openSlotBody p s).1.stock = s.stock := by
  unfold openSlotBody
  dsimp only
  split
  · rfl
  · rw [State.openSlot_eq]

theorem closeSlotBody_stock : (closeSlotBody p s).1.stock = s.stock := by
  unfold closeSlotBody
  dsimp only
  (repeat' split) <;> simp

theorem bindFeederBody_stock : (bindFeederBody p s).1.stock = s.stock := by
  unfold bindFeederBody
  dsimp only
  (repeat' split) <;> rfl

theorem startRunBody_stock : (startRunBody p s).1.stock = s.stock := by
  unfold startRunBody
  split <;> simp

theorem stopRunBody_stock : (stopRunBody p s).1.stock = s.stock := by
  unfold stopRunBody
  split <;> simp

theorem resumeRunBody_stock : (resumeRunBody p s).1.stock = s.stock := by
  unfold resumeRunBody
  (repeat' split) <;> simp

theorem writeJobBody_stock : (writeJobBody p s).1.stock = s.stock := by
  unfold writeJobBody
  dsimp only
  split <;> rfl

theorem startJobBody_stock : (startJobBody p s).1.stock = s.stock := by
  unfold startJobBody
  dsimp only
  (repeat' split) <;> simp

theorem resumeJobBody_stock : (resumeJobBody s).1.stock = s.stock := by
  unfold resumeJobBody
  split <;> simp

theorem busRestartBody_stock : (busRestartBody s).1.stock = s.stock := by
  unfold busRestartBody
  split <;> simp

theorem requestCreditBody_stock : (requestCreditBody p s).1.stock = s.stock := by
  unfold requestCreditBody
  dsimp only
  (repeat' split) <;> simp

theorem discardUnresolvedBody_stock : (discardUnresolvedBody p s).1.stock = s.stock := by
  unfold discardUnresolvedBody
  dsimp only
  (repeat' split) <;> simp

theorem applyRefillBody_stock : (applyRefillBody p s).1.stock = s.stock := by
  unfold applyRefillBody
  dsimp only
  split <;> simp

end

/-! ## The Stock Unit's commands -/

theorem mountReelBody_keepsStock (p : List Byte) {s : State} (h : StockLaw s) :
    StockLaw (mountReelBody p s).1 := by
  unfold mountReelBody
  dsimp only
  split
  · exact h
  · next f _ =>
    split
    · exact h
    · next hcheck => exact h.mount (State.mountCheck_none hcheck) _ _ _

theorem unmountReelBody_keepsStock (p : List Byte) {s : State} (h : StockLaw s) :
    StockLaw (unmountReelBody p s).1 := by
  unfold unmountReelBody
  split
  · exact h
  · split
    · exact h
    · next r hfound => exact h.unmount (List.mem_of_find?_eq_some hfound)

/-! ## Every step -/

/-- A level change reaches the owner of its edge; only an ISSUE edge reaches the stock table (R186). -/
theorem StockLaw.levelChange {s : State} (h : StockLaw s) (l : Line) (b : Bool) :
    StockLaw (s.levelChange l b) := by
  have htaken (l : Line) (b : Bool) : StockLaw (s.takeLevel l b) := h.of_table rfl
  unfold State.levelChange
  split
  · exact (htaken _ _).issue _
  · exact (htaken _ _).issue _
  · exact (htaken _ _).raise _
  · exact (htaken _ _).raise _
  · exact h.of_stock (by simp)
  · exact h.of_stock (by simp)
  · exact h.of_stock (by simp)
  · exact htaken _ _

theorem execNop_keepsStock (p : List Byte) (s : State) : KeepsStock s (execNop p s) := by
  unfold execNop
  split <;> exact .of_same rfl

theorem execReset_keepsStock (p : List Byte) (s : State) : KeepsStock s (execReset p s) := by
  unfold execReset
  split
  · exact .of_same rfl
  · exact .of_done fun h => (h.of_table rfl : StockLaw s.shiftOut).restart

theorem execApplyRefill_keepsStock (p : List Byte) (s : State) : KeepsStock s (execApplyRefill p s) := by
  unfold execApplyRefill
  split
  · exact .of_same rfl
  · exact .of_bodySame rfl (applyRefillBody_stock p)

theorem execProtectOff_keepsStock (p : List Byte) (s : State) : KeepsStock s (execProtectOff p s) := by
  refine .of_bodySame rfl fun u => ?_
  split <;> rfl

theorem execSettleTimerExpiry_keepsStock (s : State) : KeepsStock s (execSettleTimerExpiry s) := by
  refine .of_same ?_
  split
  · simp
  · rfl

/-- Every command and event keeps the law. -/
theorem exec_keepsStock (c : Instr) (s : State) : KeepsStock s (exec c s) := by
  cases c with
  | nop p => exact execNop_keepsStock p s
  | reset p => exact execReset_keepsStock p s
  | restart => exact .of_done fun h => h.restart
  | mountReel p =>
    exact (.of_command rfl fun _ => mountReelBody_keepsStock p : KeepsStock s (execMountReel p s))
  | unmountReel p =>
    exact (.of_command rfl fun _ => unmountReelBody_keepsStock p : KeepsStock s (execUnmountReel p s))
  | issueRise f => exact .of_done fun h => (h.of_table rfl : StockLaw (s.takeLevel _ _)).issue f
  | askWindowExpiry id => exact .of_done fun h => h.askWindowExpiry _
  | qualifiedLevelChange l b => exact .of_done fun h => h.levelChange l b
  | reelNoteMounted | reelNoteReleased | reelNoteEmpty | standing | want | pledge | take | ask | waive
  | settled | received | void | reelAsk => exact .of_done fun h => h.receive _ _
  | frameIgnored | duplicateStation => exact .of_done fun h => h.receiveRaw _
  | readQueue | readStock | readPeers => exact .of_read rfl
  | status | readLines | readRegisters | readAlarms | readFinished | readWalker | readBus | readTransfers
  | protectOn | clearAlarms | setAlarmMask | clearAlarmMask | cancelPending =>
    simp only [exec, execStatus, execReadLines, execReadRegisters, execReadAlarms, execReadFinished,
      execReadWalker, execReadBus, execReadTransfers, execProtectOn, execClearAlarms, execSetAlarmMask,
      execClearAlarmMask, execCancelPending]
    exact .of_bodySame rfl fun _ => rfl
  | protectOff p => exact execProtectOff_keepsStock p s
  | readRates p =>
    exact (.of_bodySame rfl fun u => by rw [readRatesBody_reads] : KeepsStock s (execReadRates p s))
  | readGrant p =>
    exact (.of_bodySame rfl fun u => by rw [readGrantBody_reads] : KeepsStock s (execReadGrant p s))
  | readSlot p =>
    exact (.of_bodySame rfl fun u => by rw [readSlotBody_reads] : KeepsStock s (execReadSlot p s))
  | readJob p =>
    exact (.of_bodySame rfl fun u => by rw [readJobBody_reads] : KeepsStock s (execReadJob p s))
  | configure p => exact (.of_bodySame rfl (configureBody_stock p) : KeepsStock s (execConfigure p s))
  | setDay p => exact (.of_bodySame rfl (setDayBody_stock p) : KeepsStock s (execSetDay p s))
  | writePendingRate p =>
    exact (.of_bodySame rfl (writePendingRateBody_stock p) : KeepsStock s (execWritePendingRate p s))
  | setEffectiveDay p =>
    exact (.of_bodySame rfl (setEffectiveDayBody_stock p) : KeepsStock s (execSetEffectiveDay p s))
  | writeGrant p => exact (.of_bodySame rfl (writeGrantBody_stock p) : KeepsStock s (execWriteGrant p s))
  | closePeriod p => exact (.of_bodySame rfl closePeriodBody_stock : KeepsStock s (execClosePeriod p s))
  | openSlot p => exact (.of_bodySame rfl (openSlotBody_stock p) : KeepsStock s (execOpenSlot p s))
  | closeSlot p => exact (.of_bodySame rfl (closeSlotBody_stock p) : KeepsStock s (execCloseSlot p s))
  | bindFeeder p => exact (.of_bodySame rfl (bindFeederBody_stock p) : KeepsStock s (execBindFeeder p s))
  | startRun p => exact (.of_bodySame rfl (startRunBody_stock p) : KeepsStock s (execStartRun p s))
  | stopRun p => exact (.of_bodySame rfl (stopRunBody_stock p) : KeepsStock s (execStopRun p s))
  | resumeRun p => exact (.of_bodySame rfl (resumeRunBody_stock p) : KeepsStock s (execResumeRun p s))
  | writeJob p => exact (.of_bodySame rfl (writeJobBody_stock p) : KeepsStock s (execWriteJob p s))
  | startJob p => exact (.of_bodySame rfl (startJobBody_stock p) : KeepsStock s (execStartJob p s))
  | resumeJob p => exact (.of_bodySame rfl resumeJobBody_stock : KeepsStock s (execResumeJob p s))
  | haltJob p =>
    exact (.of_bodySame rfl fun u => by simp [haltJobBody] : KeepsStock s (execHaltJob p s))
  | busRestart p => exact (.of_bodySame rfl busRestartBody_stock : KeepsStock s (execBusRestart p s))
  | requestCredit p =>
    exact (.of_bodySame rfl (requestCreditBody_stock p) : KeepsStock s (execRequestCredit p s))
  | discardUnresolved p =>
    exact (.of_bodySame rfl (discardUnresolvedBody_stock p) : KeepsStock s (execDiscardUnresolved p s))
  | applyRefill p => exact execApplyRefill_keepsStock p s
  | settleTimerExpiry => exact execSettleTimerExpiry_keepsStock s
  | badCommand | shortFrame | transactionWhileBusy | lineSettled | reelLowRise | imprintSendingEnd
  | serviceFall | peerAgeing => exact .of_same rfl
  | doneRise | faultRise | mechanismTimerExpiry | frameSent | frameNotSent | busOff | busControllerReturn
  | standingTimerExpiry | wantWindowExpiry | pledgeTimerExpiry | backupDelayExpiry | retryIntervalExpiry =>
    exact .of_same (by simp)

/-- Every step keeps it: a command of the queue, an expiry that is due, or 1 ms. -/
theorem step_keepsStock (s : State) : KeepsStock s (step s) := by
  unfold step
  split
  · next c rest _ =>
    exact ⟨fun t ht h => (exec_keepsStock c _).next t ht (h.of_table rfl)⟩
  · split
    · exact exec_keepsStock _ s
    · exact .of_done fun h => h.tick

/-- Settles O57: the entries that a step changes, moves or makes keep what R129 asks of them and of each
other. -/
theorem stockLawIsKept : Obligations.StockLawIsKept :=
  fun s t h hstep => (step_keepsStock s).next t hstep h

end Sys2Proof.Machine
end

section
/-! SUPPORT. The rows of the input qualifiers (R145, R186): a level that goes to no owner, an edge that goes
to one, and the rise of REEL_LOW, settled. -/

namespace Sys2Proof.Machine

/-- A level brought to a line moves its qualifier alone, as R186 leaves it (assumption log 23). -/
theorem State.takeLevel_eq (s : State) (l : Line) (level : Bool) :
    s.takeLevel l level = { s with lines := linesTaken s l level } := rfl

theorem State.levelChange_unowned {s : State} {l : Line} {level : Bool} (h : ownedEdge l level = false) :
    s.levelChange l level = s.takeLevel l level := by
  unfold State.levelChange
  split
  case h_8 => rfl
  all_goals exact nomatch h

/-- An edge that has an owner is its owner's event (assumption log 39). -/
theorem exec_levelChange_owned {l : Line} {level : Bool} {c : Instr} (h : edgeEvent l level = some c)
    (s : State) : exec (.qualifiedLevelChange l level) s = exec c s := by
  unfold edgeEvent at h
  split at h <;> cases h <;> rfl

/-- FEED_ENABLE looks at the slots, the stock and whether the station is configured (R142). -/
theorem State.feedLevel_congr {s t : State} (hslots : t.slots = s.slots) (hstock : t.stock = s.stock)
    (hsettings : t.port.settings = s.port.settings) (f : Feeder) : t.feedLevel f = s.feedLevel f := by
  unfold State.feedLevel State.configured State.boundSlot State.mountedIn State.slot
  rw [hslots, hstock, hsettings]

/-- While the outputs follow the state, a change of other units leaves the FEED_ENABLE lines. -/
theorem State.driveOutputs_feed {s t : State} (hslots : t.slots = s.slots) (hstock : t.stock = s.stock)
    (hsettings : t.port.settings = s.port.settings) (hs : s.driveOutputs = s) :
    t.driveOutputs.outs.feedEnableA = s.outs.feedEnableA ∧
    t.driveOutputs.outs.feedEnableB = s.outs.feedEnableB := by
  rw [← congrArg State.outs hs]
  exact ⟨State.feedLevel_congr hslots hstock hsettings .a, State.feedLevel_congr hslots hstock hsettings .b⟩

/-- A rise of REEL_LOW raises its feeder's alarm and nothing else (R145). -/
theorem exec_reelLowRise (s : State) (f : Feeder) :
    ∃ t, exec (.reelLowRise f) s = .next t ∧
      t = { s with lines := linesTaken s (reelLowLine f) true, port := t.port, outs := t.outs } ∧
      RaisedWithin s.port t.port [reelLowAlarm f] ∧ t.alarm (reelLowAlarm f) = true ∧
      (s.driveOutputs = s → t.outs.feedEnableA = s.outs.feedEnableA ∧
        t.outs.feedEnableB = s.outs.feedEnableB) :=
  ⟨_, rfl, rfl, (s.takeLevel (reelLowLine f) true).raise_within (List.mem_singleton.mpr rfl),
    State.alarm_raise_self _ _, State.driveOutputs_feed rfl rfl rfl⟩

/-- Settles O54: by the row, and for a level change by whether its edge has an owner. -/
theorem lineEdgesReachTheirOwners : Obligations.LineEdgesReachTheirOwners := by
  intro s level l _
  refine ⟨⟨_, rfl, rfl⟩, fun h => ⟨_, rfl, ?_⟩, fun x hx => ?_, fun x hx => ?_⟩
  · rw [State.levelChange_unowned h]
    rfl
  · simp only [List.mem_cons, List.not_mem_nil, or_false] at hx
    rcases hx with rfl | rfl | rfl | rfl | rfl | rfl | rfl <;> exact exec_levelChange_owned rfl s
  · rcases List.mem_pair.mp hx with rfl | rfl
    · exact exec_reelLowRise s .a
    · exact exec_reelLowRise s .b

end Sys2Proof.Machine
end

section
/-! SUPPORT. The reel notes heard (R131, R137, R139, R140): what each entry makes of them, settled. -/

namespace Sys2Proof.Machine

/-! ## What the Stock Unit moves -/

/-- From s to t the Stock Unit acts: its records, the transmit queue and alarms of a list move, and nothing
else. -/
structure StockActed (l : List Alarm) (s t : State) : Prop where
  rest : t = { s with stock := t.stock, bus := { s.bus with tx := t.bus.tx }, port := t.port }
  kept : QueueKept s t
  raised : RaisedWithin s.port t.port l

theorem StockActed.refl (l : List Alarm) (s : State) : StockActed l s s := ⟨rfl, .refl s, .refl _ _⟩

theorem StockActed.trans {l : List Alarm} {s t u : State} (h : StockActed l s t) (k : StockActed l t u) :
    StockActed l s u :=
  ⟨by rw [k.rest, h.rest], h.kept.trans k.kept, h.raised.trans k.raised⟩

section
variable {l : List Alarm} {s t : State} (h : StockActed l s t)
include h

theorem StockActed.modStock (f : StockUnit → StockUnit) : StockActed l s (t.modStock f) :=
  h.trans ⟨rfl, .of_tx rfl, .refl _ _⟩

theorem StockActed.raise {a : Alarm} (ha : a ∈ l) : StockActed l s (t.raise a) :=
  h.trans ⟨rfl, .of_tx rfl, t.raise_within ha⟩

theorem StockActed.raiseIf (c : Bool) {a : Alarm} (ha : a ∈ l) : StockActed l s (t.raiseIf c a) := by
  unfold State.raiseIf
  split
  · exact h.raise ha
  · exact h

theorem StockActed.handOver (x : BusFrame) (ha : .txOverflow ∈ l) : StockActed l s (t.handOver x) :=
  h.trans ⟨by rw [State.handOver_eq], t.handOver_kept x, t.handOver_within x ha⟩

theorem StockActed.tellEmpty (r : Reel) (ht : .txOverflow ∈ l) (he : .reelEmpty ∈ l) :
    StockActed l s (t.tellEmpty r) :=
  (h.handOver _ ht).raise he

theorem StockActed.conflict (r : Reel) (hc : .reelConflict ∈ l) : StockActed l s (t.conflict r) := by
  unfold State.conflict
  split
  · exact h.raise hc
  · exact (h.modStock _).raise hc

theorem StockActed.claimHeard (id : Nat) (hc : .reelConflict ∈ l) (ht : .txOverflow ∈ l) :
    StockActed l s (t.claimHeard id) := by
  have hnote : StockActed l s (t.dropNote id) := h.modStock _
  rcases t.claimHeard_cases id with he | he | ⟨r, -, he | he⟩ <;> rw [he]
  · exact hnote
  · exact hnote.modStock _
  · exact ((hnote.modStock _).handOver _ ht).raise hc
  · exact hnote.conflict r hc

theorem StockActed.adopt (r : Reel) (n d : Nat) (ha : .adjusted ∈ l) (he : .reelEmpty ∈ l)
    (ht : .txOverflow ∈ l) : StockActed l s (t.adopt r n d) := by
  unfold State.adopt
  dsimp only
  split
  · exact ((h.modStock _).raiseIf _ ha).tellEmpty _ ht he
  · exact ((h.modStock _).raiseIf _ ha).handOver _ ht

theorem StockActed.releaseHeard (x id n d : Nat) (hc : .reelConflict ∈ l) (ha : .adjusted ∈ l)
    (he : .reelEmpty ∈ l) (ht : .txOverflow ∈ l) : StockActed l s (t.releaseHeard x id n d) := by
  rcases t.releaseHeard_cases x id n d with e | e | ⟨r, -, e | e⟩ <;> rw [e]
  · unfold State.noteListed
    split
    · exact h.modStock _
    · exact h
  · exact h
  · exact h.adopt r n d ha he ht
  · exact h.conflict r hc

end

/-! ## A MOUNTED or EMPTY note -/

theorem State.claimHeard_unheld {s : State} {id : Nat}
    (h : ∀ r ∈ s.stock.table, r.id = id → r.state = .empty) : s.claimHeard id = s.dropNote id := by
  unfold State.claimHeard
  dsimp only
  split
  · rfl
  · next r hfound =>
    obtain ⟨hr, hid⟩ := State.reel_some (s := s) hfound
    rw [h r hr hid]

section
variable {s : State} {r : Reel} (hfound : s.reel r.id = some r)
include hfound

theorem State.claimHeard_released (hs : r.state = .released) :
    s.claimHeard r.id = (s.dropNote r.id).dropReel r.id := by
  unfold State.claimHeard
  dsimp only
  rw [show (s.dropNote r.id).reel r.id = some r from hfound]
  simp only [hs]

theorem State.claimHeard_asking (hs : r.state = .mounted) (hc : r.check = .asking) :
    s.claimHeard r.id = (s.dropNote r.id).askConflict r := by
  unfold State.claimHeard
  dsimp only
  rw [show (s.dropNote r.id).reel r.id = some r from hfound]
  simp only [hs, hc, if_true]

theorem State.claimHeard_mounted (hs : r.state = .mounted) (hc : r.check ≠ .asking) :
    s.claimHeard r.id = (s.dropNote r.id).conflict r := by
  unfold State.claimHeard
  dsimp only
  rw [show (s.dropNote r.id).reel r.id = some r from hfound]
  simp only [hs, hc, if_false]

end

theorem State.conflict_table (s : State) (r : Reel) :
    (s.conflict r).stock.table =
      if r.check = .conflict then s.stock.table
      else otherReels s r.id ++ [{ r with check := .conflict }] := by
  unfold State.conflict
  split <;> rfl

/-- Of the Stock Unit a conflict moves the table alone. -/
theorem State.conflict_stock (s : State) (r : Reel) :
    (s.conflict r).stock = { s.stock with table := (s.conflict r).stock.table } := by
  unfold State.conflict
  split <;> rfl

theorem State.conflict_bus (s : State) (r : Reel) : (s.conflict r).bus = s.bus := by simp

theorem State.conflict_alarm (s : State) (r : Reel) : (s.conflict r).alarm .reelConflict = true :=
  State.alarm_raise_self _ _

theorem State.askConflict_table (s : State) (r : Reel) :
    (s.askConflict r).stock.table =
      otherReels s r.id ++ [{ r with check := .conflict, askWindow := none }] := by
  simp [State.askConflict, State.renewReel, putNewest, otherReels]

theorem State.askConflict_handedOver (s : State) (r : Reel) :
    HandedOver s (s.askConflict r) (noteOf .mounted r) :=
  ((s.renewReel _).handOver_handedOver (noteOf .mounted r)).congr rfl rfl
    (RaisedWithin.alarm (State.raise_within _ (List.mem_singleton.mpr rfl)))

/-- A claim moves no counter of the Stock Unit, and of the released list the note of its reel alone. -/
theorem State.claimHeard_stock (s : State) (id : Nat) :
    (s.claimHeard id).stock = { s.stock with
      table := (s.claimHeard id).stock.table
      released := s.stock.released.filter fun n => n.reelId != id } := by
  rcases s.claimHeard_cases id with he | he | ⟨r, -, he | he⟩ <;> rw [he]
  · rfl
  · rfl
  · simp [State.askConflict, State.renewReel, State.dropNote]
  · rw [State.conflict_stock]
    rfl

/-! ## A RELEASED note -/

/-- A note listed takes the newest place; the note of its reel goes, else the oldest of 16 (R131). -/
theorem addNote_eq (l : List ReleasedNote) (n : ReleasedNote) :
    addNote l n =
      (if (l.filter fun m => m.reelId != n.reelId).length < l.length ∨ l.length < 16 then
        l.filter fun m => m.reelId != n.reelId
      else l.drop 1) ++ [n] := by
  unfold addNote
  have hany : (l.any fun m => m.reelId == n.reelId) = true ↔
      (l.filter fun m => m.reelId != n.reelId).length < l.length := by
    simp [List.length_filter_lt_length_iff_exists]
  split
  · next h => rw [if_pos (.inl (hany.mp h))]
  · next h =>
    have hall : (l.filter fun m => m.reelId != n.reelId) = l := by simpa using h
    rw [hall]
    by_cases hlen : l.length < 16
    · simp [hlen]
    · simp [hlen, Nat.not_lt.mp hlen]

theorem State.noteListed_eq (s : State) (n : ReleasedNote) :
    s.noteListed n = { s with stock := { s.stock with
      released :=
        if n.remaining ≠ 0 ∧ n.denomination ≠ 0 then
          (if (s.stock.released.filter fun m => m.reelId != n.reelId).length < s.stock.released.length ∨
              s.stock.released.length < 16 then
            s.stock.released.filter fun m => m.reelId != n.reelId
          else s.stock.released.drop 1) ++ [n]
        else s.stock.released } } := by
  unfold State.noteListed
  split
  · rw [← addNote_eq]
    rfl
  · rfl

/-- An entry that adopts a note's figures (R137). -/
def Reel.adopted (r : Reel) (remaining denomination : Nat) : Reel :=
  { r with
    check := .verified, askWindow := none, countAtLoad := remaining, denomination := denomination
    remaining := remaining - r.issued }

theorem State.releaseHeard_unmounted {s : State} {id : Nat}
    (h : ∀ r ∈ s.stock.table, r.id = id → r.state ≠ .mounted) (x n d : Nat) :
    s.releaseHeard x id n d = s.noteListed ⟨id, n, d, x⟩ := by
  unfold State.releaseHeard State.noteListed
  simp only [decide_eq_true_iff]
  split
  · rfl
  · next r hfound =>
    obtain ⟨hr, hid⟩ := State.reel_some hfound
    split
    · next hs => exact absurd hs (h r hr hid)
    · rfl
    · rfl

section
variable {s : State} {r : Reel} (hfound : s.reel r.id = some r) (hs : r.state = .mounted) (x : Nat)
  {n d : Nat}
include hfound hs

theorem State.releaseHeard_asking (hc : r.check = .asking) :
    s.releaseHeard x r.id n d = if n ≠ 0 ∧ d ≠ 0 then s.adopt r n d else s := by
  unfold State.releaseHeard
  dsimp only
  rw [hfound]
  simp only [hs, hc, if_true, decide_eq_true_iff]

theorem State.releaseHeard_mounted (hc : r.check ≠ .asking) :
    s.releaseHeard x r.id n d =
      if r.check = .verified ∧ r.countAtLoad = n ∧ r.denomination = d then s else s.conflict r := by
  unfold State.releaseHeard
  dsimp only
  rw [hfound]
  simp only [hs, hc, if_false]

end

theorem bne_or_bne (a b c d : Nat) : (a != b || c != d) = decide (a ≠ b ∨ c ≠ d) := by
  rw [Bool.eq_iff_iff]
  simp

/-- The entry m of a reel that adopts the note of an entry r, at the newest place, ADJUSTED raised when the
figures differ; its frame is not yet handed over (R137). -/
def State.adopting (s : State) (r m : Reel) (n d : Nat) : State :=
  (s.renewReel m).raiseIf (n != r.countAtLoad || d != r.denomination) .adjusted

theorem State.adopt_left (s : State) {r : Reel} {n : Nat} (d : Nat) (h : r.issued < n) :
    s.adopt r n d = (s.adopting r (r.adopted n d) n d).handOver (noteOf .mounted (r.adopted n d)) :=
  if_neg (by simp; omega)

theorem State.adopt_used (s : State) {r : Reel} {n : Nat} (d : Nat) (h : n ≤ r.issued) :
    s.adopt r n d =
      (s.adopting r { r.adopted n d with state := .empty } n d).tellEmpty
        { r.adopted n d with state := .empty } := by
  have hm : (r.adopted n d).emptied = { r.adopted n d with state := .empty } := by
    simp [Reel.emptied, Reel.adopted, Nat.sub_eq_zero_of_le h]
  rw [← hm]
  exact if_pos (Nat.sub_eq_zero_of_le h)

theorem State.adopting_stock (s : State) (r m : Reel) (n d : Nat) (hid : m.id = r.id) :
    (s.adopting r m n d).stock = { s.stock with table := otherReels s r.id ++ [m] } := by
  simp [State.adopting, State.renewReel, putNewest, otherReels, hid]

theorem State.adopting_adjusted (s : State) (r m : Reel) (n d : Nat) :
    (s.adopting r m n d).alarm .adjusted =
      (s.alarm .adjusted || decide (n ≠ r.countAtLoad ∨ d ≠ r.denomination)) := by
  rw [State.adopting, State.alarm_raiseIf, State.alarm_eq (t := s) (by simp)]
  simp [bne_or_bne]

/-- What an adoption raises of ADJUSTED (R137). -/
theorem State.adopt_adjusted (s : State) (r : Reel) (n d : Nat) :
    (s.adopt r n d).alarm .adjusted =
      (s.alarm .adjusted || decide (n ≠ r.countAtLoad ∨ d ≠ r.denomination)) := by
  rcases Nat.lt_or_ge r.issued n with h | h
  · rw [State.adopt_left s d h, ← State.adopting_adjusted]
    exact (State.handOver_within _ _ (List.mem_singleton.mpr rfl)).alarm_of_not_mem (by simp)
  · rw [State.adopt_used s d h, ← State.adopting_adjusted]
    exact (State.tellEmpty_within (l := [.txOverflow, .reelEmpty]) _ _ (by simp)
      (by simp)).alarm_of_not_mem (by simp)

/-- An adoption with stamps left takes the entry to the newest place, announced (R137). -/
theorem State.adopt_left_told (s : State) {r : Reel} {n : Nat} (d : Nat) (h : r.issued < n) :
    (s.adopt r n d).stock = { s.stock with table := otherReels s r.id ++ [r.adopted n d] } ∧
    HandedOver s (s.adopt r n d) (noteOf .mounted (r.adopted n d)) := by
  rw [State.adopt_left s d h]
  refine ⟨?_, (State.handOver_handedOver _ _).congr (by simp [State.adopting]) rfl id⟩
  rw [State.handOver_eq]
  exact State.adopting_stock s r _ n d rfl

/-- An adoption of a note that is used up empties the entry (R137, R143). -/
theorem State.adopt_used_told (s : State) {r : Reel} {n : Nat} (d : Nat) (h : n ≤ r.issued) :
    (s.adopt r n d).stock = { s.stock with
      table := otherReels s r.id ++ [{ r.adopted n d with state := .empty }] } ∧
    HandedOver s (s.adopt r n d) (noteOf .empty (r.adopted n d)) ∧
    (s.adopt r n d).alarm .reelEmpty = true := by
  rw [State.adopt_used s d h]
  refine ⟨?_, (State.tellEmpty_handedOver _ _).congr (by simp [State.adopting]) rfl id,
    State.alarm_raise_self _ _⟩
  rw [State.tellEmpty_eq]
  exact State.adopting_stock s r _ n d rfl

/-- A release of a MOUNTED reel is not listed: of the Stock Unit the table alone moves. -/
theorem State.releaseHeard_mounted_stock {s : State} {r : Reel} (hfound : s.reel r.id = some r)
    (hs : r.state = .mounted) (x n d : Nat) :
    (s.releaseHeard x r.id n d).stock =
      { s.stock with table := (s.releaseHeard x r.id n d).stock.table } := by
  by_cases hc : r.check = .asking
  · rw [State.releaseHeard_asking hfound hs x hc]
    split
    · rcases Nat.lt_or_ge r.issued n with h | h
      · obtain ⟨hstock, -⟩ := s.adopt_left_told d h
        rw [hstock]
      · obtain ⟨hstock, -⟩ := s.adopt_used_told d h
        rw [hstock]
    · rfl
  · rw [State.releaseHeard_mounted hfound hs x hc]
    split
    · rfl
    · exact s.conflict_stock r

/-! ## The statement -/

/-- A reel note of a station that is heard reaches the Stock Unit in every state that receives (R114,
R119). -/
theorem State.receive_reelNote {s : State} {x : BitVec 5} (h : Heard s x) (k : NoteKind) (id : BitVec 32)
    (n d : BitVec 16) :
    s.receive x (.reelNote k id n d) =
      (s.hearPeer x.toNat).noteHeard x.toNat k id.toNat n.toNat d.toNat :=
  State.receive_heard h rfl

/-- What the Stock Unit does once the sender's entry is LIVE is all that is heard of the frame. -/
theorem StockActed.heard {l : List Alarm} {s t : State} {x : BitVec 5}
    (h : StockActed l (s.hearPeer x.toNat) t) :
    t = { s with stock := t.stock, bus := t.bus, port := t.port } ∧ BusHeard s t x ∧
      RaisedWithin s.port t.port l := by
  refine ⟨?_, ⟨?_, h.kept⟩, h.raised⟩
  · rw [h.rest]
    rfl
  · rw [h.rest]
    rfl

/-- Settles O40: a claim and a release by the entry of the reel, the only one by the stock law. -/
theorem reelNotesAreTaken : Obligations.ReelNotesAreTaken := by
  intro s x id n d hheard hlaw
  set u := s.hearPeer x.toNat with hu
  have hfound {r : Reel} (hr : r ∈ s.stock.table) : u.reel r.id = some r := State.reel_eq (s := s) hlaw hr
  refine ⟨fun c hc => ⟨(u.claimHeard id.toNat).driveOutputs, ?_, ?_⟩, ?_⟩
  · rcases List.mem_pair.mp hc with rfl | rfl <;>
      exact congrArg done (State.receive_reelNote hheard _ id n d)
  · obtain ⟨hrest, hbus, hraised⟩ := (StockActed.claimHeard (l := [.reelConflict, .txOverflow])
      (.refl _ u) id.toNat (by simp) (by simp)).heard
    refine ⟨State.driveOutputs_of_eq hrest, hbus, u.claimHeard_stock id.toNat,
      fun hunheld => ?_, fun r hr hid => ?_, hraised⟩
    · rw [State.claimHeard_unheld (s := u) hunheld]
      exact ⟨rfl, rfl, rfl⟩
    · rw [← hid]
      refine ⟨fun hs => ?_, fun hs hc => ?_, fun hs hc => ?_, fun hs => ?_⟩
      · rw [State.claimHeard_released (hfound hr) hs]
        exact ⟨rfl, rfl, rfl⟩
      · rw [State.claimHeard_asking (hfound hr) hs hc]
        exact ⟨(u.dropNote r.id).askConflict_table r, (u.dropNote r.id).askConflict_handedOver r⟩
      · rw [State.claimHeard_mounted (hfound hr) hs hc]
        exact ⟨congrArg (·.tx) ((u.dropNote r.id).conflict_bus r), (u.dropNote r.id).conflict_table r⟩
      · by_cases hc : r.check = .asking
        · rw [State.claimHeard_asking (hfound hr) hs hc]
          exact State.alarm_raise_self _ _
        · rw [State.claimHeard_mounted (hfound hr) hs hc]
          exact (u.dropNote r.id).conflict_alarm r
  · have hfull : (n ≠ 0 ∧ d ≠ 0) ↔ (n.toNat ≠ 0 ∧ d.toNat ≠ 0) := by
      simp only [ne_eq, ← BitVec.toNat_inj]
      rfl
    obtain ⟨hrest, hbus, hraised⟩ := (StockActed.releaseHeard
      (l := [.reelConflict, .adjusted, .reelEmpty, .txOverflow]) (.refl _ u) x.toNat id.toNat n.toNat
      d.toNat (by simp) (by simp) (by simp) (by simp)).heard
    refine ⟨(u.releaseHeard x.toNat id.toNat n.toNat d.toNat).driveOutputs,
      congrArg done (State.receive_reelNote hheard .released id n d), State.driveOutputs_of_eq hrest, hbus,
      fun hfree => ?_, fun r hr hid hs => ?_, hraised⟩
    · rw [State.releaseHeard_unmounted (s := u) hfree, State.noteListed_eq]
      simp only [hfull]
      exact ⟨rfl, rfl, rfl⟩
    · rw [← hid]
      refine ⟨?_, fun hc hno => ?_, fun hc hyes => ⟨?_, fun hleft => ?_, fun hused => ?_⟩,
        fun hc hcount hden => ?_, fun hc hdiffer => ?_⟩
      · exact State.releaseHeard_mounted_stock (hfound hr) hs x.toNat n.toNat d.toNat
      · rw [State.releaseHeard_asking (hfound hr) hs _ hc, if_neg (mt hfull.mpr hno)]
        exact ⟨rfl, rfl, rfl⟩
      · rw [State.releaseHeard_asking (hfound hr) hs _ hc, if_pos (hfull.mp hyes)]
        exact u.adopt_adjusted r n.toNat d.toNat
      · rw [State.releaseHeard_asking (hfound hr) hs _ hc, if_pos (hfull.mp hyes)]
        obtain ⟨hstock, htold⟩ := u.adopt_left_told d.toNat hleft
        exact ⟨congrArg (·.table) hstock, htold⟩
      · rw [State.releaseHeard_asking (hfound hr) hs _ hc, if_pos (hfull.mp hyes)]
        obtain ⟨hstock, htold, hempty⟩ := u.adopt_used_told d.toNat hused
        exact ⟨congrArg (·.table) hstock, htold, hempty⟩
      · have hne : r.check ≠ .asking := by simp [hc]
        rw [State.releaseHeard_mounted (hfound hr) hs _ hne, if_pos ⟨hc, hcount, hden⟩]
        exact ⟨rfl, rfl, rfl⟩
      · rw [State.releaseHeard_mounted (hfound hr) hs _ hc, if_neg hdiffer]
        exact ⟨u.conflict_alarm r, congrArg (·.tx) (u.conflict_bus r), u.conflict_table r⟩

end Sys2Proof.Machine
end

section
/-! SUPPORT. MOUNT REEL (R130, R133 to R136): its checks, the three mounts and what each leaves. -/

namespace Sys2Proof.Machine

/-! ## The stock after a mount -/

/-- The Stock Unit after the mount of an entry m in a feeder (R130, R131, R133; assumption log 21). -/
structure StockUnit.Takes (before after : StockUnit) (f : Feeder) (m : Reel) : Prop where
  rest : after = { before with
    table := after.table, released := before.released.filter fun n => n.reelId != m.id }
  newest : after.table.getLast? = some m
  length : after.table.length = min 12 ((before.table.filter fun q => q.id != m.id).length + 1)
  others : ∀ q ∈ before.table.filter fun q => q.id != m.id,
    (before.table.filter fun q => q.id != m.id).length < 12 ∨
      (before.table.filter fun q => q.id != m.id).find? (·.state != .mounted) ≠ some q →
    q.leaving f ∈ after.table

/-- In a table with one entry for each reel, a change of an entry's place keeps the number of entries. -/
theorem length_putNewest {l : List Reel} (h : TableLaw l) {r old : Reel} (ho : old ∈ l)
    (hid : old.id = r.id) : (l.filter fun q => q.id != r.id).length + 1 = l.length := by
  have hlen := (perm_putNewest h.ids ho hid).length_eq
  simpa [putNewest, replaceReel] using hlen

/-- The Stock Unit after a remount (R134). -/
def StockUnit.refed (u : StockUnit) (f : Feeder) (m : Reel) : StockUnit :=
  { u with
    table := putNewest (clearEmptyFeeder u.table f) m
    released := u.released.filter fun n => n.reelId != m.id }

theorem StockUnit.takes_refed {u : StockUnit} (h : TableLaw u.table) {f : Feeder}
    (hu : Unmounted u.table f) {m old : Reel} (ho : old ∈ u.table) (hid : old.id = m.id) :
    u.Takes (u.refed f m) f m := by
  have hmem : old.leaving f ∈ clearEmptyFeeder u.table f := (mem_clearEmptyFeeder h hu).mpr ⟨old, ho, rfl⟩
  refine ⟨rfl, List.getLast?_concat, ?_, fun q hq _ => ?_⟩
  · have hplace := length_putNewest (h.cleared hu) (r := m) hmem (by simpa using hid)
    rw [(perm_clearEmptyFeeder h hu).length_eq, List.length_map] at hplace
    rw [length_putNewest h ho hid, Nat.min_eq_right h.length, ← hplace]
    exact List.length_append
  · obtain ⟨hq, hne⟩ := List.mem_filter.mp hq
    exact List.mem_append_left _ (List.mem_filter.mpr
      ⟨(mem_clearEmptyFeeder h hu).mpr ⟨q, hq, rfl⟩, by simpa using hne⟩)

/-- The Stock Unit after the mount of a reel it held no entry for (R135, R136). -/
def StockUnit.added (u : StockUnit) (f : Feeder) (m : Reel) : StockUnit :=
  { u with
    table := clearEmptyFeeder (evict u.table) f ++ [m]
    released := u.released.filter fun n => n.reelId != m.id }

theorem StockUnit.takes_added {u : StockUnit} (h : TableLaw u.table) {f : Feeder}
    (hu : Unmounted u.table f) {m : Reel} (hid : ∀ q ∈ u.table, q.id ≠ m.id) :
    u.Takes (u.added f m) f m := by
  have hev := h.sublist (evict_sublist u.table)
  have huev : Unmounted (evict u.table) f := fun q hq => hu q ((evict_sublist _).subset hq)
  have hall : (u.table.filter fun q => q.id != m.id) = u.table :=
    List.filter_eq_self.mpr fun q hq => by simpa using hid q hq
  refine ⟨rfl, List.getLast?_concat, ?_, ?_⟩
  · have hlen := (perm_clearEmptyFeeder hev huev).length_eq
    rw [List.length_map, h.length_evict] at hlen
    rw [hall, StockUnit.added, List.length_append, hlen, List.length_singleton]
    omega
  · rw [hall]
    exact fun q hq hkept => List.mem_append_left _
      ((mem_clearEmptyFeeder hev huev).mpr ⟨q, mem_evict hq hkept, rfl⟩)

/-! ## The three mounts -/

/-- A mount once its entry is made: ADJUSTED when the figures differ, and the frame handed over. -/
def State.mounting (s : State) (u : StockUnit) (adjusted : Bool) (frame : BusFrame) : State :=
  ((s.modStock fun _ => u).raiseIf adjusted .adjusted).handOver frame

theorem State.mount_held {s : State} {f : Feeder} {r : Reel} (h : s.reel r.id = some r) (d c : Nat) :
    s.mount f r.id d c =
      (s.mounting (s.stock.refed f (r.remounted f))
        (decide (c ≠ r.remaining ∨ d ≠ r.denomination)) (noteOf .mounted (r.remounted f)),
        decide (c ≠ r.remaining ∨ d ≠ r.denomination)) := by
  unfold State.mount
  rw [h, ← bne_or_bne]
  rfl

section
variable {s : State} {id : Nat} (h : ∀ r ∈ s.stock.table, r.id ≠ id) (f : Feeder) (d c : Nat)
include h

theorem State.reel_absent : s.reel id = none :=
  List.find?_eq_none.mpr fun r hr => by simpa using h r hr

theorem State.mount_noted {n : ReleasedNote} (hn : s.releasedNote id = some n) :
    s.mount f id d c =
      (s.mounting (s.stock.added f (n.reel f)) (decide (c ≠ n.remaining ∨ d ≠ n.denomination))
        (noteOf .mounted (n.reel f)), decide (c ≠ n.remaining ∨ d ≠ n.denomination)) := by
  unfold State.mount
  rw [State.reel_absent h, hn, ← bne_or_bne]
  rfl

theorem State.mount_asking (hn : ∀ n ∈ s.stock.released, n.reelId ≠ id) :
    s.mount f id d c =
      (s.mounting (s.stock.added f (askingReel f id d c)) false (.reelAsk (BitVec.ofNat 32 id)), false) := by
  have hnone : s.releasedNote id = none := List.find?_eq_none.mpr fun n hm => by simpa using hn n hm
  have hall : (s.stock.released.filter fun n => n.reelId != id) = s.stock.released :=
    List.filter_eq_self.mpr fun n hm => by simpa using hn n hm
  have hstock : s.stock.added f (askingReel f id d c) =
      { s.stock with table := clearEmptyFeeder (evict s.stock.table) f ++ [askingReel f id d c] } := by
    rw [StockUnit.added, show (askingReel f id d c).id = id from rfl, hall]
  unfold State.mount
  rw [State.reel_absent h, hnone, hstock]
  rfl

end

/-! ## What a mount leaves -/

theorem State.mounting_stock (s : State) (u : StockUnit) (b : Bool) (x : BusFrame) :
    (s.mounting u b x).stock = u := by simp [State.mounting]

theorem State.mounting_acted (s : State) (u : StockUnit) (b : Bool) (x : BusFrame) :
    StockActed [.adjusted, .txOverflow] s (s.mounting u b x) :=
  (((StockActed.refl _ s).modStock _).raiseIf b (by simp)).handOver x (by simp)

theorem State.mounting_handedOver (s : State) (u : StockUnit) (b : Bool) (x : BusFrame) :
    HandedOver s (s.mounting u b x) x :=
  (State.handOver_handedOver _ x).congr (by simp) rfl id

theorem State.mounting_adjusted (s : State) (u : StockUnit) (b : Bool) (x : BusFrame) :
    (s.mounting u b x).alarm .adjusted = (s.alarm .adjusted || b) := by
  have hover := (State.handOver_within ((s.modStock fun _ => u).raiseIf b .adjusted) x
    (List.mem_singleton.mpr rfl)).alarm_of_not_mem (a := .adjusted) (by simp)
  rw [State.mounting, hover, State.alarm_raiseIf]
  simp [State.alarm]

/-- A command that lets the Stock Unit act, answered: the stock, the queue, the port and the output
pins move. -/
theorem StockActed.answered {l : List Alarm} {s v : State} (h : StockActed l s.shiftOut v)
    (a : Response) :
    (v.replied a).driveOutputs = { s with
      stock := v.stock, bus := { s.bus with tx := v.bus.tx }, port := (v.replied a).port
      outs := (v.replied a).driveOutputs.outs } :=
  congrArg (fun w : State =>
    { w with port := (v.replied a).port, outs := (v.replied a).driveOutputs.outs }) h.rest

/-- A mount answered is what the statement calls a reel mounted. -/
theorem State.mounting_reelMounted {s : State} {u : StockUnit} {f : Feeder} {m : Reel}
    (h : s.stock.Takes u f m) (b : Bool) (x : BusFrame) :
    ReelMounted s ((s.shiftOut.mounting u b x).replied ⟨.ok, m.mountBytes b⟩).driveOutputs f m b x := by
  have hacted := s.shiftOut.mounting_acted u b x
  have hbus : (s.shiftOut.mounting u b x).bus =
      { s.bus with tx := (s.shiftOut.mounting u b x).bus.tx } := congrArg (·.bus) hacted.rest
  obtain ⟨htakes, hnewest, hlength, hothers⟩ := h
  rw [← s.shiftOut.mounting_stock u b x] at htakes hnewest hlength hothers
  refine ⟨(hacted.answered _).trans ?_, hbus, (s.shiftOut.mounting_handedOver u b x).congr rfl rfl id,
    htakes, hnewest, hlength, hothers, hacted.raised.answered _, s.shiftOut.mounting_adjusted u b x⟩
  rw [← hbus]
  rfl

/-! ## The checks -/

/-- The feeder that a code 0 or 1 names. -/
def mountFeeder (p : List Byte) : Feeder := if field p 0 1 = 0 then .a else .b

theorem feederOf_eq (n : Nat) :
    feederOf n = if 1 < n then none else some (if n = 0 then .a else .b) := by
  rcases n with _ | _ | n
  · rfl
  · rfl
  · exact (if_pos (by omega)).symm

/-- The checks of R133 in their order. -/
def State.mountRefusal (s : State) (p : List Byte) : Option Status :=
  if 1 < field p 0 1 then some .badArgument
  else s.mountCheck (mountFeeder p) (field p 1 4) (field p 5 2) (field p 7 2)

theorem State.mountRefusal_ne_ok (s : State) (p : List Byte) : s.mountRefusal p ≠ some .ok := by
  unfold State.mountRefusal State.mountCheck
  (repeat' split) <;> nofun

/-- The mount a payload asks for. -/
def State.mountOf (s : State) (p : List Byte) : State × Bool :=
  s.mount (mountFeeder p) (field p 1 4) (field p 5 2) (field p 7 2)

theorem mountReelBody_refused {p : List Byte} {s : State} {st : Status} (h : s.mountRefusal p = some st) :
    mountReelBody p s = (s, refusal st) := by
  unfold State.mountRefusal at h
  unfold mountReelBody
  rw [feederOf_eq]
  split at h
  · next hf => rw [if_pos hf, ← Option.some.inj h]
  · next hf =>
    dsimp only
    rw [if_neg hf]
    simp only [show s.mountCheck (if field p 0 1 = 0 then Feeder.a else Feeder.b) (field p 1 4)
      (field p 5 2) (field p 7 2) = some st from h]

theorem mountReelBody_ok {p : List Byte} {s : State} {r : Reel} (h : s.mountRefusal p = none)
    (hr : (s.mountOf p).1.reel (field p 1 4) = some r) :
    mountReelBody p s = ((s.mountOf p).1, ⟨.ok, r.mountBytes (s.mountOf p).2⟩) := by
  unfold State.mountRefusal at h
  unfold mountReelBody
  rw [feederOf_eq]
  split at h
  · exact nomatch h
  · next hf =>
    have hmount : s.mount (if field p 0 1 = 0 then Feeder.a else Feeder.b) (field p 1 4) (field p 5 2)
      (field p 7 2) = s.mountOf p := rfl
    dsimp only
    rw [if_neg hf]
    simp only [show s.mountCheck (if field p 0 1 = 0 then Feeder.a else Feeder.b) (field p 1 4)
      (field p 5 2) (field p 7 2) = none from h, hmount, hr]
    rfl

/-- The refusal of a payload that R133 does not allow. -/
theorem State.mountRefusal_bad (s : State) {p : List Byte}
    (h : 1 < field p 0 1 ∨ field p 1 4 = 0 ∨ field p 5 2 = 0 ∨ field p 7 2 = 0) :
    s.mountRefusal p = some .badArgument := by
  unfold State.mountRefusal State.mountCheck
  by_cases hf : 1 < field p 0 1
  · exact if_pos hf
  · rw [if_neg hf]
    exact if_pos (h.resolve_left hf)

section
variable {s : State} {p : List Byte}
  (h : ¬ (1 < field p 0 1 ∨ field p 1 4 = 0 ∨ field p 5 2 = 0 ∨ field p 7 2 = 0))
include h

theorem State.mountRefusal_occupied (ho : (s.mountedIn (mountFeeder p)).isSome = true) :
    s.mountRefusal p = some .feederOccupied := by
  obtain ⟨hf, hz⟩ := not_or.mp h
  rw [State.mountRefusal, if_neg hf, State.mountCheck, if_neg hz]
  exact if_pos ho

theorem State.mountRefusal_free (hu : Unmounted s.stock.table (mountFeeder p)) :
    s.mountRefusal p =
      if (s.reel (field p 1 4)).any (fun r => r.state != .released) then some .reelKnown else none := by
  obtain ⟨hf, hz⟩ := not_or.mp h
  have hfree : ¬ (s.mountedIn (mountFeeder p)).isSome = true := fun hsome => by
    obtain ⟨r, hr⟩ := Option.isSome_iff_exists.mp hsome
    obtain ⟨hmem, hs, hfeeder⟩ := State.mountedIn_some hr
    exact hu r hmem hs hfeeder
  rw [State.mountRefusal, if_neg hf, State.mountCheck, if_neg hz, if_neg hfree]

theorem State.mountRefusal_held (hu : Unmounted s.stock.table (mountFeeder p)) {r : Reel}
    (hr : s.reel (field p 1 4) = some r) :
    s.mountRefusal p = if r.state ≠ .released then some .reelKnown else none := by
  rw [State.mountRefusal_free h hu, hr]
  simp

theorem State.mountRefusal_absent (hu : Unmounted s.stock.table (mountFeeder p))
    (hnew : ∀ r ∈ s.stock.table, r.id ≠ field p 1 4) : s.mountRefusal p = none := by
  rw [State.mountRefusal_free h hu, State.reel_absent hnew]
  rfl

end

/-! ## The command -/

section
variable {s t : State} {p : List Byte} (hc : s.configured = true) (hp : p.length = 9)
  (ht : exec (.mountReel p) s = .next t)
include hc hp ht

theorem exec_mountReel_refused {st : Status} (h : s.shiftOut.mountRefusal p = some st) :
    Refused s t st := by
  have hpass : s.portCheck .mountReel p = none := State.portCheck_pass (by simp [CommandRow.mountReel, hp])
    hc nofun
  obtain ⟨v, hv, hr⟩ := s.runCommand_bodyRefused (mountReelBody p) hpass (mountReelBody_refused h)
    fun e => s.shiftOut.mountRefusal_ne_ok p (e ▸ h)
  have hsame : Host.Outcome.next t = .next v := ht.symm.trans hv
  rwa [Host.Outcome.next.inj hsame]

theorem exec_mountReel_mounted {u : StockUnit} {m : Reel} {b : Bool} {x : BusFrame}
    (hcheck : s.shiftOut.mountRefusal p = none)
    (hmount : s.shiftOut.mountOf p = (s.shiftOut.mounting u b x, b)) (hid : m.id = field p 1 4)
    (htakes : s.stock.Takes u (mountFeeder p) m) (hlaw : TableLaw u.table) :
    ReelMounted s t (mountFeeder p) m b x := by
  have hpass : s.portCheck .mountReel p = none := State.portCheck_pass (by simp [CommandRow.mountReel, hp])
    hc nofun
  have hstock := s.shiftOut.mounting_stock u b x
  have hreel : (s.shiftOut.mountOf p).1.reel (field p 1 4) = some m := by
    rw [hmount, ← hid]
    refine State.reel_eq (stockLaw_iff.mpr ?_) ?_
    · rwa [hstock]
    · rw [hstock]
      exact List.mem_of_getLast? htakes.newest
  have hbody := mountReelBody_ok hcheck hreel
  rw [hmount] at hbody
  have hsame := ht.symm.trans (s.runCommand_ok (mountReelBody p) hpass hbody)
  rw [Host.Outcome.next.inj hsame]
  exact State.mounting_reelMounted htakes b x

section
variable (hlaw : StockLaw s)
  (hok : ¬ (1 < field p 0 1 ∨ field p 1 4 = 0 ∨ field p 5 2 = 0 ∨ field p 7 2 = 0))
  (hfree : Unmounted s.stock.table (mountFeeder p))
include hlaw hok hfree

theorem exec_mountReel_known {r : Reel} (hr : r ∈ s.stock.table) (hid : r.id = field p 1 4)
    (hs : r.state ≠ .released) : Refused s t .reelKnown := by
  have hreel : s.shiftOut.reel (field p 1 4) = some r := by
    rw [← hid]
    exact State.reel_eq (s := s) hlaw hr
  exact exec_mountReel_refused hc hp ht ((State.mountRefusal_held hok hfree hreel).trans (if_pos hs))

/-- A reel remounted from its own RELEASED entry (R134). -/
theorem exec_mountReel_held {r : Reel} (hr : r ∈ s.stock.table) (hid : r.id = field p 1 4)
    (hs : r.state = .released) :
    ReelMounted s t (mountFeeder p) (r.remounted (mountFeeder p))
      (decide (field p 7 2 ≠ r.remaining ∨ field p 5 2 ≠ r.denomination))
      (noteOf .mounted (r.remounted (mountFeeder p))) := by
  have hreel : s.shiftOut.reel r.id = some r := State.reel_eq (s := s) hlaw hr
  have htable := stockLaw_iff.mp hlaw
  refine exec_mountReel_mounted hc hp ht (u := s.stock.refed _ (r.remounted _)) ?_ ?_ hid
    (StockUnit.takes_refed htable hfree hr rfl) (htable.refeed hfree hr rfl (.of_mounted rfl rfl rfl) rfl)
  · exact (State.mountRefusal_held hok hfree (hid ▸ hreel)).trans (if_neg (not_not_intro hs))
  · rw [State.mountOf, ← hid]
    exact State.mount_held hreel _ _

/-- A reel mounted from a peer's note (R135). -/
theorem exec_mountReel_noted (hnew : ∀ r ∈ s.stock.table, r.id ≠ field p 1 4) {n : ReleasedNote}
    (hn : s.releasedNote (field p 1 4) = some n) :
    ReelMounted s t (mountFeeder p) (n.reel (mountFeeder p))
      (decide (field p 7 2 ≠ n.remaining ∨ field p 5 2 ≠ n.denomination))
      (noteOf .mounted (n.reel (mountFeeder p))) := by
  have hid := State.releasedNote_some hn
  have habsent : ∀ q ∈ s.stock.table, q.id ≠ (n.reel (mountFeeder p)).id := fun q hq e =>
    hnew q hq (e.trans hid)
  have htable := stockLaw_iff.mp hlaw
  exact exec_mountReel_mounted hc hp ht (State.mountRefusal_absent (s := s.shiftOut) hok hfree hnew)
    (State.mount_noted (s := s.shiftOut) hnew _ _ _ hn) hid (StockUnit.takes_added htable hfree habsent)
    (htable.addReel hfree habsent (.of_mounted rfl rfl rfl) rfl)

/-- A reel neither held nor noted, mounted ASKING (R136). -/
theorem exec_mountReel_asking (hnew : ∀ r ∈ s.stock.table, r.id ≠ field p 1 4)
    (hno : ∀ n ∈ s.stock.released, n.reelId ≠ field p 1 4) :
    ReelMounted s t (mountFeeder p) (askingReel (mountFeeder p) (field p 1 4) (field p 5 2) (field p 7 2))
      false (.reelAsk (BitVec.ofNat 32 (field p 1 4))) :=
  have htable := stockLaw_iff.mp hlaw
  exec_mountReel_mounted hc hp ht (State.mountRefusal_absent (s := s.shiftOut) hok hfree hnew)
    (State.mount_asking (s := s.shiftOut) hnew _ _ _ hno) rfl (StockUnit.takes_added htable hfree hnew)
    (htable.addReel hfree hnew (.of_mounted rfl rfl rfl) rfl)

end

end

end Sys2Proof.Machine
end

section
/-! SUPPORT. MOUNT REEL and UNMOUNT REEL (R133 to R136, R141), settled. -/

namespace Sys2Proof.Machine

/-! ## UNMOUNT REEL -/

theorem State.feederEntry_eq {s : State} (h : StockLaw s) {r : Reel} (hr : r ∈ s.stock.table) {f : Feeder}
    (hf : r.feeder = some f) : s.feederEntry f = some r :=
  find?_eq_of_unique hr (by simp [hf]) fun _ hq hqf =>
    h.feeder_unique hq hr (by simpa using hqf) hf

theorem State.feederEntry_none {s : State} {f : Feeder} (h : ∀ r ∈ s.stock.table, r.feeder ≠ some f) :
    s.feederEntry f = none :=
  List.find?_eq_none.mpr fun r hr => by simpa using h r hr

/-- An entry RELEASED by its unmount (R141). -/
def Reel.unmounted (r : Reel) : Reel :=
  { r with
    state := .released, feeder := none, askWindow := none
    check := if r.check = .asking then .unverified else r.check }

theorem State.unmount_empty (s : State) {r : Reel} (h : r.state = .empty) :
    s.unmount r = s.renewReel { r with feeder := none } ∧ r.unmountResult = 2 := by
  simp [State.unmount, Reel.unmountResult, h, ReelState.code]

theorem State.unmount_conflict (s : State) {r : Reel} (h : r.state = .mounted) (hc : r.check = .conflict) :
    s.unmount r = s.dropReel r.id ∧ r.unmountResult = 3 := by
  simp [State.unmount, Reel.unmountResult, h, hc]

theorem State.unmount_released (s : State) {r : Reel} (h : r.state = .mounted) (hc : r.check ≠ .conflict) :
    s.unmount r = (s.renewReel r.unmounted).handOver (noteOf .released r) ∧ r.unmountResult = 1 := by
  simp [State.unmount, Reel.unmountResult, h, hc, ReelState.code, Reel.unmounted, Reel.note, noteOf]

section
variable {code : Byte} {s : State}

theorem unmountReelBody_bad (h : 1 < code.toNat) : unmountReelBody [code] s = (s, refusal .badArgument) := by
  unfold unmountReelBody
  rw [field_head, feederOf_eq, if_pos h]

theorem unmountReelBody_none (h : code.toNat ≤ 1)
    (he : s.feederEntry (if code = 0 then .a else .b) = none) :
    unmountReelBody [code] s = (s, refusal .feederEmpty) := by
  unfold unmountReelBody
  rw [field_head, feederOf_toNat h]
  simp only [he]

theorem unmountReelBody_some {r : Reel} (h : code.toNat ≤ 1)
    (he : s.feederEntry (if code = 0 then .a else .b) = some r) :
    unmountReelBody [code] s = (s.unmount r, ⟨.ok, byte r.unmountResult⟩) := by
  unfold unmountReelBody
  rw [field_head, feederOf_toNat h]
  simp only [he]

end

/-- What an unmount answered leaves, by the entry's state and check (R141). -/
theorem State.unmount_answered {s t : State} {r : Reel}
    (ht : t = ((s.shiftOut.unmount r).replied ⟨.ok, byte r.unmountResult⟩).driveOutputs) :
    (r.state = .empty →
      t = { s with
        stock := { s.stock with table := otherReels s r.id ++ [{ r with feeder := none }] }
        port := s.portAfter ⟨.ok, beBytes 1 2⟩, outs := t.outs }) ∧
    (r.state = .mounted → r.check = .conflict →
      t = { s with
        stock := { s.stock with table := otherReels s r.id }
        port := s.portAfter ⟨.ok, beBytes 1 3⟩, outs := t.outs }) ∧
    (r.state = .mounted → r.check ≠ .conflict →
      t = { s with
        stock := { s.stock with table := otherReels s r.id ++ [r.unmounted] }
        bus := { s.bus with tx := t.bus.tx }, port := t.port, outs := t.outs } ∧
      HandedOver s t (noteOf .released r) ∧
      RaisedWithin (s.portAfter ⟨.ok, beBytes 1 1⟩) t.port [.txOverflow]) := by
  subst ht
  refine ⟨fun hs => ?_, fun hs hc => ?_, fun hs hc => ?_⟩
  · obtain ⟨hu, hcode⟩ := s.shiftOut.unmount_empty hs
    rw [hu, hcode]
    rfl
  · obtain ⟨hu, hcode⟩ := s.shiftOut.unmount_conflict hs hc
    rw [hu, hcode]
    rfl
  · obtain ⟨hu, hcode⟩ := s.shiftOut.unmount_released hs hc
    have hacted : StockActed [.txOverflow] s.shiftOut
        ((s.shiftOut.renewReel r.unmounted).handOver (noteOf .released r)) :=
      ((StockActed.refl _ s.shiftOut).modStock _).handOver _ (by simp)
    rw [hu, hcode]
    refine ⟨(hacted.answered _).trans ?_,
      ((s.shiftOut.renewReel r.unmounted).handOver_handedOver (noteOf .released r)).congr rfl rfl
        (fun h => h), hacted.raised.answered _⟩
    rw [State.handOver_eq]
    rfl

/-- Settles O38: the checks in their order; the entry of the reel, its note or neither; and the entry of the
feeder, the only one by the stock law. -/
theorem reelsAreMountedAndUnmounted : Obligations.ReelsAreMountedAndUnmounted := by
  intro s p code hc hlaw
  refine ⟨fun hp => ?_, ?_⟩
  · intro id d claimed f bad
    obtain ⟨v, hv⟩ := exec_done (.mountReel p) s
    refine ⟨v.driveOutputs, hv, fun hbad => exec_mountReel_refused hc hp hv (State.mountRefusal_bad _ hbad),
      fun hok => ⟨?_, fun hfree => ⟨fun r hr hid =>
        ⟨exec_mountReel_known hc hp hv hlaw hok hfree hr hid,
          exec_mountReel_held hc hp hv hlaw hok hfree hr hid⟩,
        fun hnew => ⟨fun n hn => ?_, exec_mountReel_asking hc hp hv hlaw hok hfree hnew⟩⟩⟩⟩
    · rintro ⟨r, hr, hs, hf⟩
      refine exec_mountReel_refused hc hp hv (State.mountRefusal_occupied hok ?_)
      exact Option.isSome_iff_exists.mpr ⟨r, State.mountedIn_eq (s := s) hlaw hr hs hf⟩
    · have hm : (⟨id, n.denomination, n.remaining, n.remaining, 0, .mounted, some f, .verified, none⟩ :
          Reel) = n.reel f := by rw [ReleasedNote.reel, State.releasedNote_some (s := s) hn]
      dsimp only
      rw [hm]
      exact exec_mountReel_noted hc hp hv hlaw hok hfree hnew hn
  · intro f
    have hpass : s.portCheck .unmountReel [code] = none :=
      State.portCheck_pass (by simp [CommandRow.unmountReel]) hc nofun
    rcases Nat.lt_or_ge 1 code.toNat with hcode | hcode
    · obtain ⟨t, ht, hr⟩ := s.runCommand_bodyRefused (unmountReelBody [code]) hpass
        (unmountReelBody_bad hcode) (by decide)
      exact ⟨t, ht, fun _ => hr, fun h => absurd hcode (Nat.not_lt.mpr h)⟩
    · cases he : s.feederEntry f with
      | none =>
        obtain ⟨t, ht, hr⟩ := s.runCommand_bodyRefused (unmountReelBody [code]) hpass
          (unmountReelBody_none (s := s.shiftOut) hcode he) (by decide)
        refine ⟨t, ht, fun h => absurd hcode (Nat.not_le.mpr h), fun _ => ⟨fun _ => hr, fun r hmem hf => ?_⟩⟩
        exact nomatch he.symm.trans (State.feederEntry_eq hlaw hmem hf)
      | some r =>
        refine ⟨_, s.runCommand_ok (unmountReelBody [code]) hpass
          (unmountReelBody_some (s := s.shiftOut) hcode he),
          fun h => absurd hcode (Nat.not_le.mpr h), fun _ => ⟨fun hnone => ?_, fun q hq hf => ?_⟩⟩
        · exact nomatch he.symm.trans (State.feederEntry_none hnone)
        · obtain rfl : r = q := Option.some.inj (he.symm.trans (State.feederEntry_eq hlaw hq hf))
          exact State.unmount_answered rfl

end Sys2Proof.Machine
end

section
/-! SUPPORT. What stays of a frame handed over while the neighbours act (R120, R121), and what a STANDING evaluated
alone leaves (R123). -/

namespace Sys2Proof.Machine

/-! ## Frames counted -/

theorem mem_framesKept {s : State} {f : BusFrame} : f ∈ framesKept s ↔ Queued s f ∧ f.code ≠ 48 := by
  simp [framesKept, Queued]

theorem count_framesKept (s : State) {f : BusFrame} (h : f.code ≠ 48) :
    (framesKept s).count f = s.bus.tx.countP fun e => e.frame == f := by
  rw [framesKept, List.count_filter (by simpa using h), List.count_eq_countP, List.countP_map]
  rfl

/-- A frame put into its place is one more of those that are like it. -/
theorem countP_txInsert {p : TxEntry → Bool} {f : BusFrame} (h : p ⟨f, false⟩ = false) (l : List TxEntry) :
    (txInsert f l).countP p = l.countP p := by
  induction l with
  | nil => simp [txInsert, h]
  | cons d rest ih =>
    unfold txInsert
    split <;> simp [List.countP_cons, h, ih]

/-- From s to t every frame of the queue but a STANDING stays, none of them a second time, and TX_OVERFLOW is not
taken back (R120, R121). -/
structure FramesStay (s t : State) : Prop where
  kept : QueueKept s t
  count : ∀ f ∈ framesKept s, (framesKept t).count f = (framesKept s).count f
  overflow : s.alarm .txOverflow = true → t.alarm .txOverflow = true

theorem FramesStay.refl (s : State) : FramesStay s s := ⟨.refl s, fun _ _ => rfl, id⟩

theorem FramesStay.trans {s t u : State} (h : FramesStay s t) (k : FramesStay t u) : FramesStay s u :=
  ⟨h.kept.trans k.kept, fun f hf => (k.count f (h.kept.1.subset hf)).trans (h.count f hf),
    fun ha => k.overflow (h.overflow ha)⟩

/-- Updates outside the transmit queue, which take no alarm back. -/
theorem FramesStay.of_tx {s t : State} (h : t.bus.tx = s.bus.tx)
    (ha : s.alarm .txOverflow = true → t.alarm .txOverflow = true) : FramesStay s t :=
  ⟨.of_tx h.symm, fun f _ => by rw [framesKept, framesKept, h], ha⟩

theorem State.raise_framesStay (s : State) (a : Alarm) : FramesStay s (s.raise a) :=
  .of_tx rfl (RaisedWithin.alarm (s.raise_within (List.mem_singleton.mpr rfl)))

theorem State.raiseIf_framesStay (s : State) (c : Bool) (a : Alarm) : FramesStay s (s.raiseIf c a) := by
  unfold State.raiseIf
  split
  · exact s.raise_framesStay a
  · exact .refl s

/-- A frame that is not handed over is not one of those that another joins. -/
theorem count_framesKept_txInsert (s : State) {f g : BusFrame} (hf : f ∈ framesKept s) (hg : g ≠ f) :
    (framesKept (s.modBus fun b => { b with tx := txInsert g b.tx })).count f = (framesKept s).count f := by
  obtain ⟨_, hcode⟩ := mem_framesKept.mp hf
  rw [count_framesKept _ hcode, count_framesKept _ hcode]
  exact countP_txInsert (by simpa using hg) _

theorem State.enqueue_framesStay (s : State) (g : BusFrame) : FramesStay s (s.enqueue g) := by
  refine ⟨s.enqueue_kept g, fun f hf => ?_, (s.enqueue_grows g).overflow⟩
  obtain ⟨hqueued, _⟩ := mem_framesKept.mp hf
  by_cases hidle : s.busSends = false ∨ Queued s g
  · rw [State.enqueue_idle hidle]
  · obtain ⟨hs, hnew⟩ := not_or.mp hidle
    have hs : s.busSends = true := by simpa using hs
    by_cases hl : s.bus.tx.length < 16
    · rw [State.enqueue_room hs hnew hl]
      exact count_framesKept_txInsert s hf fun he => hnew (he ▸ hqueued)
    · rw [State.enqueue_full hs hnew (by omega)]
      rfl

theorem State.loadFront_framesStay (s : State) : FramesStay s s.loadFront :=
  ⟨s.loadFront_kept, fun f _ => by rw [State.loadFront_framesKept], s.loadFront_grows.overflow⟩

theorem State.handOver_framesStay (s : State) (g : BusFrame) : FramesStay s (s.handOver g) :=
  (s.enqueue_framesStay g).trans (State.loadFront_framesStay _)

/-- A STANDING takes the place of one that waits, joins the others, or is discarded. -/
theorem State.placeStanding_framesStay (s : State) : FramesStay s s.placeStanding := by
  refine ⟨s.placeStanding_kept, fun f hf => ?_,
    (s.placeStanding_within (List.mem_singleton.mpr rfl)).alarm⟩
  obtain ⟨_, hcode⟩ := mem_framesKept.mp hf
  have hother (e : TxEntry) (he : e.frame.code = 48) : (e.frame == f) = false :=
    beq_false_of_ne fun h => hcode (h ▸ he)
  by_cases hwaits : ∃ e ∈ s.bus.tx, e.waitingStanding = true
  · rw [State.placeStanding_replaces hwaits, count_framesKept _ hcode, count_framesKept _ hcode]
    refine (List.countP_map ..).trans (List.countP_congr fun e _ => ?_)
    by_cases he : e.waitingStanding = true
    · have hstanding : e.frame.code = 48 := by
        rw [TxEntry.waitingStanding_eq] at he
        simpa using (Bool.and_eq_true_iff.mp he).2
      simp [he, hother e hstanding, hother ⟨s.formStanding, false⟩ rfl]
    · simp [he]
  · have hnone : ∀ e ∈ s.bus.tx, ¬ e.waitingStanding = true := by simpa using hwaits
    by_cases hl : s.bus.tx.length < 16
    · rw [State.placeStanding_joins hnone hl]
      exact count_framesKept_txInsert s hf fun he => hcode (he ▸ rfl)
    · rw [State.placeStanding_full hnone (by omega)]
      rfl

theorem State.resendSettled_framesStay (s : State) : FramesStay s s.resendSettled :=
  foldl_rel .refl .trans (fun u (t : Transfer) => u.enqueue_framesStay t.settled) s.share.outRecord s

theorem State.evalStanding_framesStay (s : State) : FramesStay s s.evalStanding := by
  unfold State.evalStanding State.handStanding
  split
  · split
    · have htimer : FramesStay s.placeStanding
          (s.placeStanding.modBus fun b => { b with standingTimer := some s.intervalMs }) := .of_tx rfl id
      exact ((s.placeStanding_framesStay.trans htimer).trans (State.resendSettled_framesStay _)).trans
        (State.loadFront_framesStay _)
    · exact .refl s
  · exact .refl s

theorem State.evalWant_framesStay (s : State) : FramesStay s s.evalWant := by
  have hshare (f : SharingUnit → SharingUnit) : FramesStay s (s.modShare f) := .of_tx rfl id
  unfold State.evalWant
  split
  · split
    · exact ((hshare _).trans (State.handOver_framesStay _ _)).trans (State.evalStanding_framesStay _)
    · split
      · exact (hshare _).trans (State.raise_framesStay _ _)
      · exact .refl s
  · exact .refl s

theorem State.afterAvail_framesStay (s : State) : FramesStay s s.afterAvail :=
  s.evalStanding_framesStay.trans (State.evalWant_framesStay _)

/-- A frame handed over is still handed over after what leaves the frames of the queue in it. -/
theorem HandedOver.stays {s t u : State} {f : BusFrame} (h : HandedOver s t f) (hf : f.code ≠ 48)
    (k : FramesStay t u) : HandedOver s u f := by
  obtain ⟨hroom, hfull, hcount, hkept⟩ := h
  have hqueued (hq : Queued t f) : Queued u f :=
    (mem_framesKept.mp (k.kept.1.subset (mem_framesKept.mpr ⟨hq, hf⟩))).1
  refine ⟨fun hs hl => hqueued (hroom hs hl), fun hs => (hfull hs).imp hqueued k.overflow, fun hq => ?_,
    hkept.trans k.kept⟩
  rw [k.count f (hkept.1.subset (mem_framesKept.mpr ⟨hq, hf⟩)), hcount hq]

/-! ## The neighbours after a frame handed over, and a STANDING evaluated alone -/

theorem State.evalStanding_eq (s : State) :
    s.evalStanding = { s with bus := s.evalStanding.bus, port := s.evalStanding.port } := by
  have h := s.evalStanding_frame
  cases ht : s.evalStanding
  simp_all

/-- With frames handed over first, by a station that sends, the neighbours act as without. -/
theorem NeighboursActed.of_onlyHandsOver {m u t : State} (h : NeighboursActed u t) (k : OnlyHandsOver m u)
    (hs : m.busSends = true) : NeighboursActed m t := by
  obtain ⟨⟨hwant, hkept, hbus, _⟩, hqueued⟩ := h
  have hset : u.port.settings = m.port.settings := (congrArg PortUnit.settings k.raised.1 :)
  have hrest := k.rest
  have hchanged : u.standingChanged = m.standingChanged := by
    unfold State.standingChanged State.standingFlags State.surplus
    rw [hset, hrest]
  refine ⟨⟨?_, k.kept.trans hkept, ?_, fun hno => absurd hs (by simp [hno])⟩, ?_⟩
  · rw [hwant]
    exact State.evalWant_share_congr (by rw [hrest]) (by rw [hrest]) (by rw [hrest]) hset
  · rw [hbus, hrest]
  · rwa [k.grows.sends, hchanged] at hqueued

/-- A station whose retry interval runs sends no WANT (R154). -/
theorem not_wantConditions_of_retry {s : State} (h : s.share.retry ≠ none) : ¬ WantConditions s := by
  rintro ⟨_, _, _, _, hretry, _⟩
  exact h hretry

/-- Where the conditions of R154 do not hold, a STANDING evaluated is all that the neighbours do. -/
theorem State.evalStanding_neighboursActed {s : State} (h : ¬ WantConditions s) :
    NeighboursActed s s.evalStanding := by
  have hidle : s.afterAvail = s.evalStanding := by
    refine State.evalWant_idle fun hc => h ?_
    obtain ⟨hsame, _⟩ := State.wantConditions_congr (s := s.evalStanding) (t := s) (by simp) (by simp)
      (by simp) (by simp)
    rwa [wantConditions_iff, hsame, ← wantConditions_iff] at hc
  exact hidle ▸ s.afterAvail_neighboursActed

/-- The want closed and at most alarms raised on it: the STANDING evaluated then (R123, R148). -/
theorem State.closed_evalStanding {m u : State} (hu : u = { m with port := u.port })
    (hset : u.port.settings = m.port.settings) (hretry : m.share.retry ≠ none) :
    u.evalStanding = { m with bus := u.evalStanding.bus, port := u.evalStanding.port } ∧
      NeighboursActed m u.evalStanding := by
  have hidle : ¬ WantConditions u := not_wantConditions_of_retry (by rwa [hu])
  refine ⟨?_, (State.evalStanding_neighboursActed hidle).of_port hu hset rfl rfl rfl⟩
  exact u.evalStanding_eq.trans (congrArg (fun w : State =>
    { w with bus := u.evalStanding.bus, port := u.evalStanding.port }) hu)

end Sys2Proof.Machine
end

section
/-! SUPPORT. REQUEST CREDIT, the retry interval, the want window and the settle timer (R153, R154, R157, R163, R164),
settled. -/

namespace Sys2Proof.Machine

/-! ## The WANT sent -/

section
variable {s : State} (h : WantConditions s)
include h

theorem State.evalWant_opens (ha : 100 ≤ s.wantAmount) : s.evalWant = s.openWant :=
  (if_pos ((wantConditions_iff s).mp h)).trans (if_pos ha)

/-- Below 100 no WANT is sent, and a request fails. -/
theorem State.evalWant_fails (ha : s.wantAmount < 100) :
    s.evalWant = (s.modShare fun u => { u with request := none }).raiseIf s.share.request.isSome .wantFailed := by
  refine (if_pos ((wantConditions_iff s).mp h)).trans ((if_neg (by omega)).trans ?_)
  unfold State.raiseIf
  cases hr : s.share.request with
  | some => rfl
  | none => simp [State.modShare, ← hr]

end

/-- A want ASKED, before its WANT is handed over (R154). -/
def State.wantAsked (s : State) : State :=
  s.modShare fun u =>
    { u with
      want := some ⟨nextNumber s.share.lastWant, s.wantAmount, s.share.request.isSome, none⟩
      lastWant := nextNumber s.share.lastWant, request := none, wantWindow := some 1000 }

/-- A WANT sent is handed over, also beside the STANDING that follows it (R154, R123). -/
theorem State.openWant_handedOver (s : State) :
    HandedOver s s.openWant
      (.want (BitVec.ofNat 16 (nextNumber s.share.lastWant)) (BitVec.ofNat 24 s.wantAmount)) := by
  have hhanded := s.wantAsked.handOver_handedOver
    (.want (BitVec.ofNat 16 (nextNumber s.share.lastWant)) (BitVec.ofNat 24 s.wantAmount))
  exact (hhanded.congr (s' := s) rfl rfl id).stays (by simp [BusFrame.code]) (State.evalStanding_framesStay _)

/-- The evaluation of R154 does what it asks in each of its three cases. -/
theorem State.evalWant_wantSent (m : State) : WantSent m m.evalWant := by
  unfold WantSent
  intro base amount no
  have hamount : amount = m.wantAmount := by
    simp only [amount, base, State.wantAmount]
    cases m.share.request <;> rfl
  clear_value amount
  subst hamount
  refine ⟨fun hno => ?_, fun hc ha => ⟨?_, ?_⟩, fun hc ha => ?_⟩
  · rw [State.evalWant_idle hno]
    exact ⟨rfl, rfl⟩
  · rw [State.evalWant_share, if_pos ((wantConditions_iff m).mp hc), if_pos ha]
    rfl
  · rw [State.evalWant_opens hc ha]
    exact m.openWant_handedOver
  · rw [State.evalWant_fails hc ha]
    refine ⟨by simp, by simp, fun hr => ?_⟩
    rw [State.alarm_raiseIf]
    simp [Option.isSome_iff_ne_none.mpr hr]

/-! ## REQUEST CREDIT -/

/-- The number that three bytes spell. -/
theorem field_three (b2 b1 b0 : Byte) :
    field [b2, b1, b0] 0 3 = b2.toNat * 65536 + b1.toNat * 256 + b0.toNat := by
  simp [field, beNat]
  omega

section
variable {s : State} {p : List Byte}

theorem requestCreditBody_small (h : field p 0 3 < 100) :
    requestCreditBody p s = (s, refusal .badArgument) :=
  if_pos h

theorem requestCreditBody_busy (h : 100 ≤ field p 0 3) (hr : s.share.request ≠ none) :
    requestCreditBody p s = (s, refusal .busy) :=
  (if_neg (Nat.not_lt.mpr h)).trans (if_pos (Option.isSome_iff_ne_none.mpr hr))

variable (h : 100 ≤ field p 0 3) (hr : s.share.request = none)
include h hr

theorem requestCreditBody_exhausted (hm : s.acct.mode = .exhausted) :
    requestCreditBody p s = (s.raise .wantFailed, okResponse) :=
  (if_neg (Nat.not_lt.mpr h)).trans ((if_neg (by simp [hr])).trans (if_pos hm))

theorem requestCreditBody_stands (hm : s.acct.mode ≠ .exhausted) :
    requestCreditBody p s =
      ((s.modShare fun u => { u with request := some (field p 0 3) }).evalWant, okResponse) :=
  (if_neg (Nat.not_lt.mpr h)).trans ((if_neg (by simp [hr])).trans (if_neg hm))

end

/-- A request that stands (R153). -/
def State.asking (s : State) (a : Nat) : State := s.modShare fun u => { u with request := some a }

/-- What a request that stands leaves, its command answered (R153, R154). -/
theorem requestCredit_sent {s t : State} {a : Nat}
    (ht : t = ((s.shiftOut.asking a).evalWant.replied okResponse).driveOutputs) :
    t = { s with share := t.share, bus := t.bus, port := t.port, outs := t.outs } ∧
    WantSent (s.asking a) t ∧ WantsEvaluated (s.asking a) t ∧
    RaisedWithin (s.portAfter ⟨.ok, []⟩) t.port neighbourAlarms := by
  subst ht
  refine ⟨State.answered_eq (m := s) (u := (s.shiftOut.asking a).evalWant) ?_ _,
    (s.shiftOut.asking a).evalWant_wantSent, ?_, ?_⟩
  · rw [State.evalWant_eq]
    rfl
  · obtain ⟨hshare, hrest⟩ := (s.shiftOut.asking a).evalWant_wantsEvaluated
    exact ⟨hshare.trans (State.evalWant_share_congr rfl rfl rfl rfl), hrest⟩
  · exact ((s.shiftOut.asking a).evalWant_within (by decide) (by decide)).answered okResponse

/-- The retry interval ended (R153). -/
def State.retryEnded (s : State) : State := s.modShare fun u => { u with retry := none }

theorem State.retryExpiry_stopped {s : State} (h : s.share.retry = none) : s.retryExpiry = s :=
  if_neg (by simp [h])

theorem State.retryExpiry_running {s : State} (h : s.share.retry ≠ none) :
    s.retryExpiry = s.retryEnded.evalWant :=
  if_pos (Option.isSome_iff_ne_none.mpr h)

/-- Settles O51: REQUEST CREDIT by its checks in order, the retry interval by whether it runs; both end in the one
evaluation of R154. -/
theorem wantIsSentOnItsConditions : Obligations.WantIsSentOnItsConditions := by
  intro s b2 b1 b0 a asking retried
  refine ⟨fun hc => ?_, ⟨_, rfl, fun hstop => ?_, fun hrun => ?_⟩⟩
  · have hpass : s.portCheck .requestCredit [b2, b1, b0] = none :=
      State.portCheck_pass (by simp [CommandRow.requestCredit]) hc nofun
    have ha : field [b2, b1, b0] 0 3 = a := field_three b2 b1 b0
    rcases Nat.lt_or_ge a 100 with hsmall | henough
    · obtain ⟨t, ht, hrefused⟩ := s.runCommand_bodyRefused _ hpass
        (requestCreditBody_small (ha ▸ hsmall)) (by decide)
      exact ⟨t, ht, fun _ => hrefused, by omega, by omega, by omega⟩
    · by_cases hr : s.share.request = none
      · by_cases hm : s.acct.mode = .exhausted
        · refine ⟨_, s.runCommand_ok _ hpass (requestCreditBody_exhausted (s := s.shiftOut) (ha ▸ henough) hr hm),
            by omega, fun _ h => absurd hr h, fun _ _ _ => ⟨rfl, ?_, ?_⟩, fun _ _ h => absurd hm h⟩
          · exact s.shiftOut.alarm_raise_self .wantFailed
          · exact (s.shiftOut.raise_within (List.mem_singleton.mpr rfl)).answered okResponse
        · refine ⟨_, s.runCommand_ok _ hpass (requestCreditBody_stands (s := s.shiftOut) (ha ▸ henough) hr hm),
            by omega, fun _ h => absurd hr h, fun _ _ h => absurd h hm, fun _ _ _ => ?_⟩
          rw [ha]
          exact requestCredit_sent rfl
      · obtain ⟨t, ht, hrefused⟩ := s.runCommand_bodyRefused _ hpass
          (requestCreditBody_busy (s := s.shiftOut) (ha ▸ henough) hr) (by decide)
        exact ⟨t, ht, by omega, fun _ _ => hrefused, fun _ h => absurd h hr, fun _ h => absurd h hr⟩
  · exact State.driveOutputs_of_eq (State.retryExpiry_stopped hstop)
  · rw [State.retryExpiry_running hrun]
    exact ⟨State.driveOutputs_of_eq s.retryEnded.evalWant_eq, s.retryEnded.evalWant_wantSent,
      s.retryEnded.evalWant_wantsEvaluated, s.retryEnded.evalWant_within (by decide) (by decide)⟩

/-! ## The want window and the settle timer -/

theorem State.wantWindowExpiry_stopped {s : State} (h : s.share.wantWindow = none) : s.wantWindowExpiry = s :=
  if_neg (by simp [h])

/-- A want that no pledge was taken for (R157). -/
theorem State.wantWindowExpiry_asked {s : State} (h : s.share.wantWindow ≠ none) {w : Want}
    (hw : s.share.want = some w) (ht : w.taken = none) :
    s.wantWindowExpiry = (s.closeWant.raiseIf w.forRequest .wantFailed).evalStanding := by
  unfold State.wantWindowExpiry
  rw [if_pos (Option.isSome_iff_ne_none.mpr h), hw]
  exact if_neg (by simp [ht])

/-- A TAKEN want asked for once more (R163). -/
def State.askedAgain (s : State) (w : Want) (k : Taken) : State :=
  s.modShare fun u =>
    { u with
      want := some { w with taken := some { k with attempts := k.attempts + 1 } }
      settleTimer := some 2000 }

/-- A TAKEN want given up: its entry unresolved, its want closed (R164). -/
def State.givenUp (s : State) (w : Want) (k : Taken) : State :=
  (s.wantToUnresolved w k).modShare fun u => { u with retry := some 5000 }

section
variable {s : State} {w : Want} {k : Taken} (hw : s.share.want = some w) (hk : w.taken = some k)
include hw hk

theorem State.settleExpired_again (h : k.attempts < 3) :
    s.settleExpired = (s.askedAgain w k).sendAsk k.giver w.no k.pledgeNo := by
  unfold State.settleExpired
  simp only [hw, hk]
  exact if_pos h

theorem State.settleExpired_givenUp (h : 3 ≤ k.attempts) :
    s.settleExpired = (s.givenUp w k).evalStanding := by
  unfold State.settleExpired
  simp only [hw, hk]
  exact if_neg (Nat.not_lt.mpr h)

end

theorem exec_settleTimerExpiry_stopped {s : State} (h : s.share.settleTimer = none) :
    exec .settleTimerExpiry s = .next s.driveOutputs :=
  congrArg done (if_neg (by simp [h]))

theorem exec_settleTimerExpiry_running {s : State} (h : s.share.settleTimer ≠ none) :
    exec .settleTimerExpiry s = .next s.settleExpired.driveOutputs :=
  congrArg done (if_pos (Option.isSome_iff_ne_none.mpr h))

/-- What the end of the settle timer does to a TAKEN want (R163, R164). -/
theorem settleExpired_outcome {s t : State} (ht : t = s.settleExpired.driveOutputs) {w : Want} {k : Taken}
    (hw : s.share.want = some w) (hk : w.taken = some k) :
    (k.attempts < 3 →
      t = { s with
        share := (s.askedAgain w k).share, bus := { s.bus with tx := t.bus.tx }, port := t.port
        outs := t.outs } ∧
      HandedOver s t (.ask (BitVec.ofNat 8 k.giver) (BitVec.ofNat 16 w.no) (BitVec.ofNat 16 k.pledgeNo)) ∧
      RaisedWithin s.port t.port [.txOverflow]) ∧
    (3 ≤ k.attempts →
      t = { s with share := (s.givenUp w k).share, bus := t.bus, port := t.port, outs := t.outs } ∧
      NeighboursActed { s with share := (s.givenUp w k).share } t ∧ t.alarm .unresolved = true ∧
      RaisedWithin s.port t.port [.unresolved, .txOverflow]) := by
  subst ht
  refine ⟨fun hmore => ?_, fun hdone => ?_⟩
  · rw [State.settleExpired_again hw hk hmore]
    have honly := (s.askedAgain w k).handOver_onlyHandsOver
      (.ask (BitVec.ofNat 8 k.giver) (BitVec.ofNat 16 w.no) (BitVec.ofNat 16 k.pledgeNo))
    exact ⟨State.driveOutputs_of_eq honly.rest,
      ((s.askedAgain w k).handOver_handedOver _).congr rfl rfl id, honly.raised⟩
  · rw [State.settleExpired_givenUp hw hk hdone]
    have hup : (s.givenUp w k).alarm .unresolved = true := s.alarm_raise_self .unresolved
    have hraised : RaisedWithin s.port (s.givenUp w k).port [.unresolved, .txOverflow] :=
      s.raise_within (by simp)
    obtain ⟨heq, hacted⟩ := State.closed_evalStanding (m := { s with share := (s.givenUp w k).share })
      (u := s.givenUp w k) rfl rfl (by simp [State.givenUp])
    exact ⟨State.driveOutputs_of_eq heq, hacted,
      ((s.givenUp w k).evalStanding_within (List.mem_singleton.mpr rfl)).alarm hup,
      hraised.trans (State.evalStanding_within _ (by simp))⟩

/-- Settles O52: the want window closes a want not taken; the settle timer by the attempts made. -/
theorem wantTimersCloseOrAskAgain : Obligations.WantTimersCloseOrAskAgain := by
  intro s
  refine ⟨⟨_, rfl, fun hstop => ?_, fun hrun w hw htaken => ?_⟩, ?_⟩
  · exact State.driveOutputs_of_eq (State.wantWindowExpiry_stopped hstop)
  · rw [State.wantWindowExpiry_asked hrun hw htaken]
    obtain ⟨heq, hacted⟩ := State.closed_evalStanding (m := s.closeWant)
      (State.raiseIf_of_port (s := s.closeWant) rfl w.forRequest .wantFailed) (by simp) nofun
    have hraised : RaisedWithin s.port (s.closeWant.raiseIf w.forRequest .wantFailed).port
        [.txOverflow, .wantFailed] := s.closeWant.raiseIf_within _ (by simp)
    refine ⟨State.driveOutputs_of_eq heq, hacted, hraised.trans (State.evalStanding_within _ (by simp)),
      fun hreq => (State.evalStanding_within _ (List.mem_singleton.mpr rfl)).alarm ?_⟩
    rw [State.alarm_raiseIf, hreq]
    simp
  · by_cases hstop : s.share.settleTimer = none
    · exact ⟨_, exec_settleTimerExpiry_stopped hstop, fun _ => rfl, fun h => absurd hstop h⟩
    · exact ⟨_, exec_settleTimerExpiry_running hstop, fun h => absurd h hstop,
        fun _ w hw k hk => settleExpired_outcome rfl hw hk⟩

end Sys2Proof.Machine
end

section
/-! SUPPORT. A WANT and a PLEDGE heard, and the backup delay (R155, R156, R158 to R160), settled. -/

namespace Sys2Proof.Machine

/-! ## Frames heard -/

/-- A number of a frame laid out again. -/
theorem noField_toNat (v : BitVec 16) : noField v.toNat = v := by simp [noField]

section
variable {s : State} {x : BitVec 5} (h : HeardWhole s x)
include h

theorem State.receive_want (wantNo : BitVec 16) (amount : BitVec 24) :
    s.receive x (.want wantNo amount) =
      (s.hearPeer x.toNat).wantHeard x.toNat wantNo.toNat amount.toNat := by
  obtain ⟨hheard, hsilenced⟩ := h.heard
  exact (State.receive_heard hheard rfl).trans (if_neg hsilenced)

/-- A PLEDGE is this station's or another's (R155, R159). -/
theorem State.receive_pledge {dest : BitVec 8} (hlow : 1 ≤ dest.toNat) (hhigh : dest.toNat ≤ 30)
    (wantNo pledgeNo : BitVec 16) (amount : BitVec 24) :
    s.receive x (.pledge dest wantNo pledgeNo amount) =
      if s.station = some dest.toNat then
        (s.hearPeer x.toNat).pledgeForUs x.toNat wantNo.toNat pledgeNo.toNat amount.toNat
      else (s.hearPeer x.toNat).pledgeForOther dest.toNat wantNo.toNat := by
  obtain ⟨hheard, hsilenced⟩ := h.heard
  have hdest : destOk (.pledge dest wantNo pledgeNo amount) = true := by
    simp [destOk, BusFrame.dest?, hlow, hhigh]
  refine (State.receive_heard hheard hdest).trans ((if_neg hsilenced).trans ?_)
  have hown : (BusFrame.pledge dest wantNo pledgeNo amount).dest?.all
      (fun d => some d == (s.hearPeer x.toNat).station) = decide (s.station = some dest.toNat) := by
    change (some dest.toNat == s.station) = _
    rw [Bool.eq_iff_iff, beq_iff_eq, decide_eq_true_iff, eq_comm]
  unfold State.frameHeard
  rw [hown]
  by_cases hs : s.station = some dest.toNat <;> simp [hs]

end

/-! ## Who pledges -/

theorem eligible_iff (s : State) (held : Nat) : Eligible s held ↔ s.eligible held = true := by
  simp [Eligible, State.eligible, and_assoc, or_assoc]

/-- No peer outranks the station, or its mode lets it pledge all the same (R159). -/
theorem ranksFirst_iff (s : State) (x : Nat) : RanksFirst s x ↔ s.ranksFirst x = true := by
  have hpeer (p : Peer) : p.outranks x (s.station.getD 0) s.surplus = false ↔
      (p.liveness = .live → p.station ≠ x → p.flags.wanting = false → p.flags.contactLocked = false →
        p.flags.exhausted = false →
        p.surplus < s.surplus ∨ (p.surplus = s.surplus ∧ s.station.getD 0 ≤ p.station)) := by
    have hrank : ¬ (s.surplus < p.surplus ∨ (s.surplus = p.surplus ∧ p.station < s.station.getD 0)) ↔
        p.surplus < s.surplus ∨ (p.surplus = s.surplus ∧ s.station.getD 0 ≤ p.station) := by omega
    rw [← hrank, ← Bool.not_eq_true]
    simp only [Peer.outranks, Bool.and_eq_true, Bool.or_eq_true, beq_iff_eq, bne_iff_ne, Bool.not_eq_true',
      decide_eq_true_eq]
    tauto
  simp [RanksFirst, State.ranksFirst, hpeer]

/-- The sender's own entry does not count in its ranking. -/
theorem ranksFirst_hearPeer (s : State) (x : Nat) : RanksFirst (s.hearPeer x) x ↔ RanksFirst s x := by
  refine or_congr_right ⟨fun h p hp hlive hne => ?_, fun h p hp hlive hne => ?_⟩
  · exact h p (mem_updatePeer_of_ne _ hp hne) hlive hne
  · refine h p ((mem_updatePeer hp).resolve_left ?_) hlive hne
    rintro ⟨q, hq, rfl⟩
    exact hne hq

theorem PledgeEntry.isFor_iff (e : PledgeEntry) (x w : Nat) :
    e.isFor x w = true ↔ e.requester = x ∧ e.wantNo = w := by
  simp [PledgeEntry.isFor]

/-- An entry is the only one of its requester and want number (R149). -/
theorem PledgeKeys.unique {l : List PledgeEntry} (h : PledgeKeys l) {d e : PledgeEntry} (hd : d ∈ l) (he : e ∈ l)
    (hr : d.requester = e.requester) (hw : d.wantNo = e.wantNo) : d = e := by
  by_contra hne
  have hsymm : Std.Symm fun d e : PledgeEntry => d.requester ≠ e.requester ∨ d.wantNo ≠ e.wantNo :=
    ⟨fun _ _ h => h.imp Ne.symm Ne.symm⟩
  exact (h.forall hd he hne).elim (fun h => h hr) fun h => h hw

/-! ## A pledge made -/

/-- The posting of a pledge with its entry, before the PLEDGE is handed over (R160). -/
def State.pledged (s : State) (x wantNo asked : Nat) : State :=
  let a := s.pledgeAmount asked
  let no := nextNumber s.share.lastPledge
  (s.post (.pledge a)).modShare fun u =>
    { u with lastPledge := no, pledges := putOffer x wantNo asked ⟨no, a⟩ u.pledges }

/-- The PLEDGE of an entry (R160). -/
def State.pledgeFrame (s : State) (x wantNo asked : Nat) : BusFrame :=
  .pledge (toField x) (noField wantNo) (noField (nextNumber s.share.lastPledge))
    (BitVec.ofNat 24 (s.pledgeAmount asked))

theorem State.makePledge_eq {s : State} (h : 100 ≤ s.surplus) (x wantNo asked : Nat) :
    s.makePledge x wantNo asked =
      ((s.pledged x wantNo asked).handOver (s.pledgeFrame x wantNo asked)).afterAvail :=
  if_neg (Nat.not_lt.mpr h)

/-- What a pledge moves before its PLEDGE is handed over (R160). -/
theorem State.pledged_eq (s : State) (x wantNo asked : Nat) :
    s.pledged x wantNo asked = { s with
      acct := s.acct.post (.pledge (s.pledgeAmount asked))
      share := { s.share with
        lastPledge := nextNumber s.share.lastPledge
        pledges := putOffer x wantNo asked
          ⟨nextNumber s.share.lastPledge, s.pledgeAmount asked⟩ s.share.pledges }
      port := (s.pledged x wantNo asked).port } := by
  unfold State.pledged
  dsimp only
  rw [State.post_eq]
  rfl

theorem State.pledged_within (s : State) (x wantNo asked : Nat) :
    RaisedWithin s.port (s.pledged x wantNo asked).port neighbourAlarms :=
  s.post_within _ (by simp [neighbourAlarms])

/-- A pledge made by a station that sends: the posting, the PLEDGE handed over, and what the neighbours do (R160). -/
theorem State.makePledge_pledgeMade {s : State} {x : BitVec 5} {wantNo : BitVec 16} {asked : Nat}
    {table : Offer → List PledgeEntry} (hsends : s.busSends = true) (hsurplus : 100 ≤ s.surplus)
    (htable : ∀ o, putOffer x.toNat wantNo.toNat asked o s.share.pledges = table o) :
    PledgeMade s (s.makePledge x.toNat wantNo.toNat asked).driveOutputs x wantNo asked table := by
  obtain rfl : (putOffer x.toNat wantNo.toNat asked · s.share.pledges) = table := funext htable
  have hu := s.pledged_eq x.toNat wantNo.toNat asked
  have hpledged := s.pledged_within x.toNat wantNo.toNat asked
  have hframe : s.pledgeFrame x.toNat wantNo.toNat asked =
      .pledge (BitVec.ofNat 8 x.toNat) wantNo (BitVec.ofNat 16 (nextNumber s.share.lastPledge))
        (BitVec.ofNat 24 (s.pledgeAmount asked)) :=
    congrArg (fun n => BusFrame.pledge _ n _ _) (noField_toNat wantNo)
  rw [State.makePledge_eq hsurplus, hframe]
  generalize s.pledged x.toNat wantNo.toNat asked = u at *
  generalize hf : BusFrame.pledge _ _ _ _ = f
  have hcode : f.code ≠ 48 := by simp [← hf, BusFrame.code]
  have hbus : u.bus = s.bus := by rw [hu]
  have hset : u.port.settings = s.port.settings := (congrArg PortUnit.settings hpledged.1 :)
  have honly := u.handOver_onlyHandsOver f
  have hhanded := u.handOver_handedOver f
  generalize u.handOver f = v at *
  have hacted : NeighboursActed u v.afterAvail := v.afterAvail_neighboursActed.of_onlyHandsOver honly
    ((State.busSends_congr (congrArg _ hbus)).trans hsends)
  have heq : v.afterAvail = { s with
      acct := s.acct.post (.pledge (s.pledgeAmount asked)), bus := v.afterAvail.bus
      share := v.afterAvail.share, port := v.afterAvail.port } := by
    refine v.afterAvail_eq.trans ?_
    generalize v.afterAvail = t
    rw [honly.rest, hu]
  refine ⟨State.driveOutputs_of_eq heq, hacted.of_port hu hset rfl rfl rfl, ?_, ?_⟩
  · have hkept : HandedOver s v.afterAvail.driveOutputs f :=
      (hhanded.stays hcode v.afterAvail_framesStay).congr hbus.symm rfl id
    exact hf ▸ hkept
  · exact (hpledged.trans (honly.raised.mono (by simp [neighbourAlarms]))).trans
      (v.afterAvail_within (by simp [neighbourAlarms]) (by simp [neighbourAlarms]))

/-! ## A WANT heard -/

theorem putOffer_new {x w : Nat} {l : List PledgeEntry} (h : ¬ ∃ e ∈ l, e.requester = x ∧ e.wantNo = w)
    (asked : Nat) (o : Offer) : putOffer x w asked o l = l ++ [⟨x, w, asked, some o, 0⟩] :=
  if_neg (by simpa [PledgeEntry.isFor] using h)

theorem putOffer_held {l : List PledgeEntry} (h : PledgeKeys l) {e : PledgeEntry} (he : e ∈ l) (asked : Nat)
    (o : Offer) :
    putOffer e.requester e.wantNo asked o l =
      l.map fun d => if d = e then { e with offer := some o, age := 0 } else d := by
  have hkept : (l.any fun d => d.isFor e.requester e.wantNo) = true :=
    List.any_eq_true.mpr ⟨e, he, by simp [PledgeEntry.isFor]⟩
  refine (if_pos hkept).trans (List.map_congr_left fun d hd => ?_)
  by_cases hde : d = e
  · simp [hde, PledgeEntry.isFor]
  · refine (if_neg fun hkey => hde ?_).trans (if_neg hde).symm
    obtain ⟨hr, hw⟩ := (d.isFor_iff _ _).mp hkey
    exact h.unique hd he hr hw

/-- A WANT that this station may answer: 100 or more, not known yet, and the station eligible (R158). -/
def MayAnswer (s : State) (x w amount : Nat) : Prop :=
  100 ≤ amount ∧ ¬ ((∃ e ∈ s.share.pledges, e.requester = x ∧ e.wantNo = w) ∨
    ∃ u ∈ s.share.outRecord, u.station = x ∧ u.wantNo = w) ∧ Eligible s s.share.pledges.length

theorem State.wantHeard_idle {s : State} {x w amount : Nat} (h : ¬ MayAnswer s x w amount) :
    s.wantHeard x w amount = s := by
  refine if_neg fun hc => h ?_
  obtain ⟨hamount, hpledges, hrecord, heligible⟩ := hc
  refine ⟨hamount, ?_, (eligible_iff s _).mpr heligible⟩
  rintro (⟨e, he, hr, hw⟩ | ⟨u, hu, hr, hw⟩)
  · simp only [Bool.not_eq_true', List.any_eq_false] at hpledges
    exact hpledges e he ((e.isFor_iff x w).mpr ⟨hr, hw⟩)
  · simp only [Bool.not_eq_true', List.any_eq_false] at hrecord
    exact hrecord u hu (by simp [hr, hw])

/-- A WANT that may be answered is pledged to by the station ranked first, and waits with the others (R159). -/
theorem State.wantHeard_answered {s : State} {x w amount : Nat} (h : MayAnswer s x w amount) :
    s.wantHeard x w amount =
      if s.ranksFirst x then s.makePledge x w amount
      else s.modShare fun u => { u with pledges := u.pledges ++ [⟨x, w, amount, none, 0⟩] } := by
  obtain ⟨hamount, hknown, heligible⟩ := h
  obtain ⟨hpledges, hrecord⟩ := not_or.mp hknown
  refine if_pos ⟨hamount, ?_, ?_, (eligible_iff s _).mp heligible⟩
  · simpa [PledgeEntry.isFor] using hpledges
  · simpa using hrecord

/-! ## The backup delay -/

theorem State.backupExpired_idle {s : State} {x w : Nat}
    (h : ∀ e ∈ s.share.pledges, e.requester = x → e.wantNo = w → e.offer ≠ none) :
    s.backupExpired x w = s := by
  have hnone : s.delayed x w = none := by
    refine List.find?_eq_none.mpr fun e he hc => ?_
    obtain ⟨hkey, hopen⟩ := Bool.and_eq_true_iff.mp hc
    obtain ⟨hr, hw⟩ := (e.isFor_iff x w).mp hkey
    exact h e he hr hw (Option.isNone_iff_eq_none.mp hopen)
  unfold State.backupExpired
  rw [hnone]

theorem State.backupExpired_delayed {s : State} (h : PledgeKeys s.share.pledges) {e : PledgeEntry}
    (he : e ∈ s.share.pledges) (ho : e.offer = none) :
    s.backupExpired e.requester e.wantNo =
      if s.eligible (s.share.pledges.length - 1) then s.makePledge e.requester e.wantNo e.asked
      else s.dropPledge e.requester e.wantNo := by
  have hfound : s.delayed e.requester e.wantNo = some e :=
    find?_eq_of_unique he (by simp [PledgeEntry.isFor, ho]) fun d hd hc => by
      obtain ⟨hr, hw⟩ := (d.isFor_iff _ _).mp (Bool.and_eq_true_iff.mp hc).1
      exact h.unique hd he hr hw
  unfold State.backupExpired
  rw [hfound]

/-- An eligible station is on the bus and has a surplus to pledge from. -/
theorem Eligible.sends {s : State} {held : Nat} (h : Eligible s held) :
    s.busSends = true ∧ 100 ≤ s.surplus := by
  obtain ⟨_, hactive, _, _, _, hsurplus⟩ := h
  exact ⟨by simp [State.busSends, hactive], hsurplus⟩

/-- Settles O46: a WANT by whether it may be answered and by rank; the backup delay by the entry that waits, the only
one of its want. -/
theorem wantsAreAnsweredByRank : Obligations.WantsAreAnsweredByRank := by
  intro s x wantNo amount held known
  refine ⟨fun hheard => ⟨_, rfl, ?_⟩, ⟨_, rfl, fun hnone => ?_, fun hkeys e he hr hw ho => ?_⟩⟩
  · rw [State.receive_want hheard]
    have hmay (h100 : 100 ≤ amount.toNat) (hnew : ¬ known) (hel : Eligible s held) :
        MayAnswer (s.hearPeer x.toNat) x.toNat wantNo.toNat amount.toNat := ⟨h100, hnew, hel⟩
    have hrank : (s.hearPeer x.toNat).ranksFirst x.toNat = true ↔ RanksFirst s x.toNat :=
      (ranksFirst_iff _ _).symm.trans (ranksFirst_hearPeer s x.toNat)
    refine ⟨fun hnot => ?_, fun h100 hnew hel hlater => ?_, fun h100 hnew hel hfirst => ?_⟩
    · rw [State.wantHeard_idle]
      · rfl
      · rintro ⟨h100, hnew, hel⟩
        exact hnot.elim (Nat.not_lt.mpr h100) fun h => h.elim hnew fun h => h hel
    · rw [State.wantHeard_answered (hmay h100 hnew hel), if_neg (mt hrank.mp hlater)]
      rfl
    · rw [State.wantHeard_answered (hmay h100 hnew hel), if_pos (hrank.mpr hfirst)]
      obtain ⟨hpledges, _⟩ := not_or.mp hnew
      obtain ⟨hsends, hsurplus⟩ := hel.sends
      exact State.makePledge_pledgeMade (s := s.hearPeer x.toNat) hsends hsurplus (putOffer_new hpledges _)
  · exact State.driveOutputs_of_eq (State.backupExpired_idle hnone)
  · have hexpired := State.backupExpired_delayed hkeys he ho
    rw [hr, hw] at hexpired
    rw [hexpired]
    refine ⟨fun hnot => ?_, fun hel => ?_⟩
    · rw [if_neg (mt (eligible_iff s _).mpr hnot)]
      rfl
    · rw [if_pos ((eligible_iff s _).mp hel)]
      obtain ⟨hsends, hsurplus⟩ := hel.sends
      refine State.makePledge_pledgeMade hsends hsurplus fun o => ?_
      rw [← hr, ← hw]
      exact putOffer_held hkeys he e.asked o

/-! ## A PLEDGE heard -/

/-- A PLEDGE that fits the open want: ASKED with its window running, the same number, and an amount from 100 to the
amount asked (R155). -/
def Want.Fits (w : Want) (window : Option Nat) (wantNo amount : Nat) : Prop :=
  w.taken = none ∧ window ≠ none ∧ w.no = wantNo ∧ 100 ≤ amount ∧ amount ≤ w.asked

theorem State.takeable_iff (s : State) (wantNo amount : Nat) :
    s.takeable wantNo amount = true ↔ ∃ w ∈ s.share.want, w.Fits s.share.wantWindow wantNo amount := by
  unfold State.takeable
  cases s.share.want with
  | none => simp
  | some w => simp [Want.Fits, Option.isSome_iff_ne_none, and_assoc]

theorem State.pledgeForUs_unfit {s : State} {wantNo amount : Nat} (h : ¬ s.takeable wantNo amount = true)
    (giver pledgeNo : Nat) :
    s.pledgeForUs giver wantNo pledgeNo amount = s.waive giver wantNo pledgeNo :=
  if_neg h

theorem State.pledgeForUs_fits {s : State} {wantNo amount : Nat} (h : s.takeable wantNo amount = true)
    (giver pledgeNo : Nat) :
    s.pledgeForUs giver wantNo pledgeNo amount =
      if amount ≤ s.room then s.takePledge giver wantNo pledgeNo amount
      else ((s.waive giver wantNo pledgeNo).closeWant.raiseIf s.wantForRequest .wantFailed).evalStanding :=
  if_pos h

/-- The WAIVE of a pledge that is not taken (R156). -/
def waiveFrame (x : BitVec 5) (wantNo pledgeNo : BitVec 16) : BusFrame :=
  .waive (BitVec.ofNat 8 x.toNat) wantNo pledgeNo

theorem State.waive_eq (s : State) (x : BitVec 5) (wantNo pledgeNo : BitVec 16) :
    s.waive x.toNat wantNo.toNat pledgeNo.toNat = s.handOver (waiveFrame x wantNo pledgeNo) := by
  unfold State.waive
  rw [noField_toNat, noField_toNat]
  rfl

/-- A pledge taken for the open want, before the TAKE is handed over (R155). -/
def State.pledgeTaken (s : State) (w : Want) (k : Taken) : State :=
  { s with
    acct := { s.acct with incoming := s.acct.incoming + k.amount }
    share := { s.share with
      want := some { w with taken := some k }, wantWindow := none, settleTimer := some 2000 } }

/-- AVAIL does not move when a pledge is taken, so that LOW_CREDIT is not raised. -/
theorem State.post_takePledge (s : State) (a : Nat) :
    s.post (.takePledge a) = { s with acct := { s.acct with incoming := s.acct.incoming + a } } := by
  have hstay : (decide (s.lowWater ≤ s.acct.avail) &&
      decide ((s.acct.post (.takePledge a)).avail < s.lowWater)) = false := by
    rcases Nat.lt_or_ge s.acct.avail s.lowWater with hlow | hhigh
    · simp [Nat.not_le.mpr hlow]
    · simp [Accounts.post, Nat.not_lt.mpr hhigh]
  unfold State.post
  dsimp only
  rw [hstay]
  rfl

/-- No further WANT is sent while a want is open (R154). -/
theorem not_wantConditions_of_want {s : State} {w : Want} (h : s.share.want = some w) : ¬ WantConditions s := by
  rintro ⟨_, _, hnone, _⟩
  exact nomatch hnone.symm.trans h

/-- A pledge taken is its posting and the TAKE handed over. -/
theorem State.takePledge_eq {s : State} {w : Want} (h : s.share.want = some w) (x : BitVec 5)
    (wantNo pledgeNo : BitVec 16) (amount : BitVec 24) :
    s.takePledge x.toNat wantNo.toNat pledgeNo.toNat amount.toNat =
      (s.pledgeTaken w ⟨x.toNat, pledgeNo.toNat, amount.toNat, 0⟩).handOver
        (.take (BitVec.ofNat 8 x.toNat) wantNo pledgeNo amount) := by
  have hamount : BitVec.ofNat 24 amount.toNat = amount := by simp
  unfold State.takePledge
  rw [State.post_takePledge, noField_toNat, noField_toNat, hamount]
  simp only [State.modShare, h, Option.map_some]
  refine State.evalWant_idle
    (not_wantConditions_of_want (w := { w with taken := some ⟨x.toNat, pledgeNo.toNat, amount.toNat, 0⟩ }) ?_)
  rw [State.handOver_eq]

/-- What a pledge taken leaves, its sender heard (R155). -/
theorem taken_outcome {s t : State} {x : BitVec 5} {w : Want} {k : Taken} {f : BusFrame}
    (ht : t = (((s.hearPeer x.toNat).pledgeTaken w k).handOver f).driveOutputs) :
    t = { s with
      acct := { s.acct with incoming := s.acct.incoming + k.amount }
      share := { s.share with
        want := some { w with taken := some k }, wantWindow := none, settleTimer := some 2000 }
      bus := t.bus, port := t.port, outs := t.outs } ∧
    BusHeard s t x ∧ HandedOver s t f ∧ RaisedWithin s.port t.port [.txOverflow] := by
  have honly := ((s.hearPeer x.toNat).pledgeTaken w k).handOver_onlyHandsOver f
  have hhanded := ((s.hearPeer x.toNat).pledgeTaken w k).handOver_handedOver f
  generalize ((s.hearPeer x.toNat).pledgeTaken w k).handOver f = v at *
  have heq : v = { s with
      acct := { s.acct with incoming := s.acct.incoming + k.amount }
      share := { s.share with
        want := some { w with taken := some k }, wantWindow := none, settleTimer := some 2000 }
      bus := v.bus, port := v.port } := by
    rw [honly.rest]
    rfl
  have hbus : v.bus = { s.bus with tx := v.bus.tx, peers := (s.hearPeer x.toNat).bus.peers } := by
    rw [honly.rest]
    rfl
  subst ht
  exact ⟨State.driveOutputs_of_eq heq, ⟨hbus, honly.kept⟩, hhanded, honly.raised⟩

/-- The open want closed for want of room, its pledge waived, before the STANDING is evaluated (R155, R156). -/
def State.turnedDown (s : State) (f : BusFrame) : State :=
  (s.handOver f).closeWant.raiseIf s.wantForRequest .wantFailed

/-- A PLEDGE to this station for which there is no room, its STANDING evaluated (R155, R156, R123). -/
theorem turnedDown_outcome {s t : State} {x : BitVec 5} {f : BusFrame} (hcode : f.code ≠ 48)
    (ht : t = (((s.hearPeer x.toNat).turnedDown f).evalStanding).driveOutputs) :
    t = { s with share := wantClosed s.share, bus := t.bus, port := t.port, outs := t.outs } ∧
    t.bus = { (s.hearPeer x.toNat).bus with
      tx := t.bus.tx, standingTimer := t.bus.standingTimer
      announcedSurplus := t.bus.announcedSurplus, announcedFlags := t.bus.announcedFlags } ∧
    HandedOver s t f ∧ RaisedWithin s.port t.port [.txOverflow, .wantFailed] ∧
    (s.wantForRequest = true → t.alarm .wantFailed = true) := by
  have honly := (s.hearPeer x.toNat).handOver_onlyHandsOver f
  have hhanded := (s.hearPeer x.toNat).handOver_handedOver f
  unfold State.turnedDown at ht
  generalize (s.hearPeer x.toNat).handOver f = v at *
  set c := (s.hearPeer x.toNat).wantForRequest
  set u := v.closeWant.raiseIf c .wantFailed
  have hv := honly.rest
  have hclosed : FramesStay v v.closeWant := .of_tx rfl id
  have hstay : FramesStay v u := hclosed.trans (v.closeWant.raiseIf_framesStay c .wantFailed)
  have hraised : RaisedWithin s.port u.port [.txOverflow, .wantFailed] :=
    (honly.raised.mono (by simp)).trans (v.closeWant.raiseIf_within c (by simp))
  obtain ⟨heq, ⟨_, _, hbus, _⟩, _⟩ := State.closed_evalStanding (m := v.closeWant)
    (State.raiseIf_of_port (s := v.closeWant) rfl c .wantFailed) (by simp) nofun
  have hend : u.evalStanding = { s with
      share := wantClosed s.share, bus := u.evalStanding.bus, port := u.evalStanding.port } := by
    refine heq.trans ?_
    generalize u.evalStanding = e
    rw [hv]
    rfl
  have hkept : HandedOver (s.hearPeer x.toNat) u.evalStanding f :=
    hhanded.stays hcode (hstay.trans u.evalStanding_framesStay)
  subst ht
  refine ⟨State.driveOutputs_of_eq hend, ?_, hkept, hraised.trans (u.evalStanding_within (by simp)),
    fun h => (u.evalStanding_within (List.mem_singleton.mpr rfl)).alarm ?_⟩
  · refine hbus.trans ?_
    generalize u.evalStanding = e
    rw [hv]
    rfl
  · have hc : c = true := h
    rw [State.alarm_raiseIf, hc]
    simp

/-- Settles O47: a PLEDGE to another station by the table it leaves; one to this station by whether it fits the open
want, and by the room. -/
theorem pledgesAreTakenOrWaived : Obligations.PledgesAreTakenOrWaived := by
  intro s x dest wantNo pledgeNo amount hheard hlow hhigh waive room fits
  refine ⟨_, rfl, fun hother => ?_, fun hown => ⟨fun hnone => ?_, fun w hw hfits => ?_⟩⟩
  all_goals rw [State.receive_pledge hheard hlow hhigh]
  · rw [if_neg hother]
    have hentry (e : PledgeEntry) :
        (e.isFor dest.toNat wantNo.toNat && e.offer.isNone) =
          (decide (e.requester = dest.toNat) && decide (e.wantNo = wantNo.toNat) && decide (e.offer = none)) := by
      rw [Bool.eq_iff_iff]
      simp [PledgeEntry.isFor]
    unfold State.pledgeForOther
    simp only [hentry]
    rfl
  · have hidle : ¬ (s.hearPeer x.toNat).takeable wantNo.toNat amount.toNat = true := by
      rw [State.takeable_iff]
      rintro ⟨w, hw, hfits⟩
      exact hnone w hw hfits
    rw [if_pos hown, State.pledgeForUs_unfit hidle, State.waive_eq]
    have honly := (s.hearPeer x.toNat).handOver_onlyHandsOver (waiveFrame x wantNo pledgeNo)
    obtain ⟨heq, hbus, hraised⟩ := honly.heard
    exact ⟨State.driveOutputs_of_eq heq, hbus, (s.hearPeer x.toNat).handOver_handedOver _, hraised⟩
  · have hfit : (s.hearPeer x.toNat).takeable wantNo.toNat amount.toNat = true :=
      (State.takeable_iff _ _ _).mpr ⟨w, hw, hfits⟩
    rw [if_pos hown, State.pledgeForUs_fits hfit]
    refine ⟨fun hroom => ?_, fun hroom => ?_⟩
    · rw [if_pos (show amount.toNat ≤ (s.hearPeer x.toNat).room from hroom),
        State.takePledge_eq (s := s.hearPeer x.toNat) hw]
      exact taken_outcome rfl
    · rw [if_neg (show ¬ amount.toNat ≤ (s.hearPeer x.toNat).room from Nat.not_le.mpr hroom), State.waive_eq]
      obtain ⟨heq, hbus, hhanded, hraised, hfailed⟩ :=
        turnedDown_outcome (s := s) (x := x) (f := waiveFrame x wantNo pledgeNo)
          (by simp [waiveFrame, BusFrame.code]) rfl
      refine ⟨heq, hbus, hhanded, hraised, fun hreq => hfailed ?_⟩
      rw [State.wantForRequest, Option.mem_def.mp hw]
      exact hreq

end Sys2Proof.Machine
end
